-- ==== Sys2Proof/Word.lean ====
section
/-! DEFINITION. Signals, words and addresses (00_scope.md R9, R10; 20_memory.md R50, R51). -/

namespace Sys2Proof

/-- A signal: `false` is low, `true` is high; there is no third value (R9). -/
abbrev Signal := Bool

/-- A word: 16 signals, bit 0 the least significant, bit 15 the sign bit (R10).  `w.getLsbD i` is the spec's `w[i]`,
`w.toNat` its unsigned value and `w.toInt` its signed value; `+` is addition modulo 2^16, `~~~`, `&&&`, `|||` are the
bitwise operators of table R11. -/
abbrev Word := BitVec 16

/-- A 15-bit word address, of the data space or of the instruction space (R50).  The unit of addressing is the word;
there are no bytes (R51). -/
abbrev Addr := BitVec 15

end Sys2Proof
end

