-- ==== Sys2Proof/Config.lean ====
section
/-! DEFINITION. The parameters of the machine: the fixed ones of table R7, and the open ones of table R8 that the spec
gives no value (92_eei_decisions.md D10, D16).  The launch parameters `ROM`, `RAM_INIT`, `SCREEN_INIT` are arguments of
`State.launch`, the inputs `RESET(t)` and `KBD(t)` stand in State, `N_STEPS` is the argument of `Host.Core.run`. -/

namespace Sys2Proof

/-- Words of RAM, addresses 0 to 16383 (table R7, R29). -/
def Config.ramWords : Nat := 16384

/-- Words of the display window, data addresses 16384 to 24575 (table R7, R31). -/
def Config.screenWords : Nat := 8192

/-- The data address of the keyboard word (table R7, R32). -/
def Config.keyboardAddr : Nat := 24576

/-- Words of the instruction store (table R7, R30). -/
def Config.romWords : Nat := 32768

/-- What a word of RAM, display or instruction store reads as before anything is written or loaded there: all-low, the
default of `RAM_INIT` (D4), of `SCREEN_INIT` (D20) and of an unloaded instruction-store word (D17).
DESIGN CHOICE of the spec, log entry 3. -/
def Config.unlistedWord : Word := 0#16

/-- `HIGH_READ(addr, t)`, what the refresh read of step `t` returns at a data address 24577 to 32767: OPEN (R53, D10).
A free value: nothing in the model says what it is.
DESIGN CHOICE, log entry 10: it depends on the address and the step only, so one permitted value, the keyboard word (a
mirror of address 24576, conflict C3), is not followed when two runs differ in that word; a comparison of two such runs
speaks of machines whose parameter is the same function in both. -/
opaque Config.highRead : Addr → Nat → Word

/-- The two orders in which the two bytes of a word may stand in the binary form of the instruction-store source. -/
inductive ByteOrder where
  /-- the high byte first -/
  | big
  /-- the low byte first -/
  | little
deriving DecidableEq, Repr, Inhabited

/-- `ROM_BIN_ORDER`, the byte order of the binary form of the instruction-store source: OPEN (R66, D16).  A free value.
Log entry 16. -/
opaque Config.romBinOrder : ByteOrder

end Sys2Proof
end

