-- ==== Sys2Proof/Syntax.lean ====
section
/-! DEFINITION. The instruction set as syntax: one constructor for each of the 129 rows of spec/opcode_table.json
(30_encoding.md R92).  A compute instruction's `a` and `c` are in the constructor; `dest` and `jump` are its fields, and
bits 14..13, which nothing reads (R88), are no part of it. -/

namespace Sys2Proof

/-- The destination field, three independent flags (R86, R208, table R94). -/
structure Dest where
  /-- `dA`, bit 5: write the ALU output to `A` -/
  a : Signal
  /-- `dD`, bit 4: write it to `D` -/
  d : Signal
  /-- `dM`, bit 3: request a memory write of it -/
  m : Signal
deriving DecidableEq, Repr

/-- The jump field, the eight conditions of R87 in the document's order (table R100). -/
inductive Jump where
  /-- 000, no jump (R220) -/
  | never
  /-- 001, `>0` (R221) -/
  | jgt
  /-- 010, `=0` (R222) -/
  | jeq
  /-- 011, `>=0` (R223) -/
  | jge
  /-- 100, `<0` (R224) -/
  | jlt
  /-- 101, `!=0` (R225) -/
  | jne
  /-- 110, `<=0` (R226) -/
  | jle
  /-- 111, unconditional (R227) -/
  | jmp
deriving DecidableEq, Repr

/-- Field `a`, bit 12: what the ALU's second operand `y` is (R84, R90). -/
inductive SrcY where
  /-- `a = 0`: the address register `A` -/
  | regA
  /-- `a = 1`: the carried memory word `inM`, written `M` -/
  | inM
deriving DecidableEq, Repr

/-- The two formats with their fields (tables R82 and R83); `c` is `zx nx zy ny f no`, `zx` its bit 5 (R85). -/
inductive Shape where
  /-- format `L` -/
  | load (value : BitVec 15)
  /-- format `C` -/
  | comp (src : SrcY) (c : BitVec 6) (dest : Dest) (jump : Jump)
deriving DecidableEq, Repr

/-- The instructions.  A constructor `cXYYYYYY` is the row `C.XYYYYYY`: `a` = X, `c` = YYYYYY (R93). -/
inductive Instr where
  /-- `@value`, load-address (R215) -/
  | loadAddr (value : BitVec 15)
  /-- `D&A`: `a` = 0, `c` = 000000, out = D & A (R300) -/
  | dAndA (dest : Dest) (jump : Jump)
  /-- `C.0000001`: `a` = 0, `c` = 000001, out = ~(D & A) (R301) -/
  | c0000001 (dest : Dest) (jump : Jump)
  /-- `D+A`: `a` = 0, `c` = 000010, out = D + A (R302) -/
  | dPlusA (dest : Dest) (jump : Jump)
  /-- `C.0000011`: `a` = 0, `c` = 000011, out = -D - A - 1 (R303) -/
  | c0000011 (dest : Dest) (jump : Jump)
  /-- `C.0000100`: `a` = 0, `c` = 000100, out = D & ~A (R304) -/
  | c0000100 (dest : Dest) (jump : Jump)
  /-- `C.0000101`: `a` = 0, `c` = 000101, out = ~D | A (R305) -/
  | c0000101 (dest : Dest) (jump : Jump)
  /-- `C.0000110`: `a` = 0, `c` = 000110, out = D - A - 1 (R306) -/
  | c0000110 (dest : Dest) (jump : Jump)
  /-- `A-D`: `a` = 0, `c` = 000111, out = A - D (R307) -/
  | aMinusD (dest : Dest) (jump : Jump)
  /-- `C.0001000`: `a` = 0, `c` = 001000, out = 0 (R308) -/
  | c0001000 (dest : Dest) (jump : Jump)
  /-- `C.0001001`: `a` = 0, `c` = 001001, out = -1 (R309) -/
  | c0001001 (dest : Dest) (jump : Jump)
  /-- `C.0001010`: `a` = 0, `c` = 001010, out = D (R310) -/
  | c0001010 (dest : Dest) (jump : Jump)
  /-- `C.0001011`: `a` = 0, `c` = 001011, out = ~D (R311) -/
  | c0001011 (dest : Dest) (jump : Jump)
  /-- `D`: `a` = 0, `c` = 001100, out = D (R312) -/
  | compD (dest : Dest) (jump : Jump)
  /-- `!D`: `a` = 0, `c` = 001101, out = ~D (R313) -/
  | notD (dest : Dest) (jump : Jump)
  /-- `D-1`: `a` = 0, `c` = 001110, out = D - 1 (R314) -/
  | dMinus1 (dest : Dest) (jump : Jump)
  /-- `-D`: `a` = 0, `c` = 001111, out = -D (R315) -/
  | negD (dest : Dest) (jump : Jump)
  /-- `C.0010000`: `a` = 0, `c` = 010000, out = ~D & A (R316) -/
  | c0010000 (dest : Dest) (jump : Jump)
  /-- `C.0010001`: `a` = 0, `c` = 010001, out = D | ~A (R317) -/
  | c0010001 (dest : Dest) (jump : Jump)
  /-- `C.0010010`: `a` = 0, `c` = 010010, out = A - D - 1 (R318) -/
  | c0010010 (dest : Dest) (jump : Jump)
  /-- `D-A`: `a` = 0, `c` = 010011, out = D - A (R319) -/
  | dMinusA (dest : Dest) (jump : Jump)
  /-- `C.0010100`: `a` = 0, `c` = 010100, out = ~(D | A) (R320) -/
  | c0010100 (dest : Dest) (jump : Jump)
  /-- `D|A`: `a` = 0, `c` = 010101, out = D | A (R321) -/
  | dOrA (dest : Dest) (jump : Jump)
  /-- `C.0010110`: `a` = 0, `c` = 010110, out = -D - A - 2 (R322) -/
  | c0010110 (dest : Dest) (jump : Jump)
  /-- `C.0010111`: `a` = 0, `c` = 010111, out = D + A + 1 (R323) -/
  | c0010111 (dest : Dest) (jump : Jump)
  /-- `C.0011000`: `a` = 0, `c` = 011000, out = 0 (R324) -/
  | c0011000 (dest : Dest) (jump : Jump)
  /-- `C.0011001`: `a` = 0, `c` = 011001, out = -1 (R325) -/
  | c0011001 (dest : Dest) (jump : Jump)
  /-- `C.0011010`: `a` = 0, `c` = 011010, out = ~D (R326) -/
  | c0011010 (dest : Dest) (jump : Jump)
  /-- `C.0011011`: `a` = 0, `c` = 011011, out = D (R327) -/
  | c0011011 (dest : Dest) (jump : Jump)
  /-- `C.0011100`: `a` = 0, `c` = 011100, out = ~D (R328) -/
  | c0011100 (dest : Dest) (jump : Jump)
  /-- `C.0011101`: `a` = 0, `c` = 011101, out = D (R329) -/
  | c0011101 (dest : Dest) (jump : Jump)
  /-- `C.0011110`: `a` = 0, `c` = 011110, out = -D - 2 (R330) -/
  | c0011110 (dest : Dest) (jump : Jump)
  /-- `D+1`: `a` = 0, `c` = 011111, out = D + 1 (R331) -/
  | dPlus1 (dest : Dest) (jump : Jump)
  /-- `C.0100000`: `a` = 0, `c` = 100000, out = 0 (R332) -/
  | c0100000 (dest : Dest) (jump : Jump)
  /-- `C.0100001`: `a` = 0, `c` = 100001, out = -1 (R333) -/
  | c0100001 (dest : Dest) (jump : Jump)
  /-- `C.0100010`: `a` = 0, `c` = 100010, out = A (R334) -/
  | c0100010 (dest : Dest) (jump : Jump)
  /-- `C.0100011`: `a` = 0, `c` = 100011, out = ~A (R335) -/
  | c0100011 (dest : Dest) (jump : Jump)
  /-- `C.0100100`: `a` = 0, `c` = 100100, out = 0 (R336) -/
  | c0100100 (dest : Dest) (jump : Jump)
  /-- `C.0100101`: `a` = 0, `c` = 100101, out = -1 (R337) -/
  | c0100101 (dest : Dest) (jump : Jump)
  /-- `C.0100110`: `a` = 0, `c` = 100110, out = ~A (R338) -/
  | c0100110 (dest : Dest) (jump : Jump)
  /-- `C.0100111`: `a` = 0, `c` = 100111, out = A (R339) -/
  | c0100111 (dest : Dest) (jump : Jump)
  /-- `C.0101000`: `a` = 0, `c` = 101000, out = 0 (R340) -/
  | c0101000 (dest : Dest) (jump : Jump)
  /-- `C.0101001`: `a` = 0, `c` = 101001, out = -1 (R341) -/
  | c0101001 (dest : Dest) (jump : Jump)
  /-- `0`: `a` = 0, `c` = 101010, out = 0 (R342) -/
  | zero (dest : Dest) (jump : Jump)
  /-- `C.0101011`: `a` = 0, `c` = 101011, out = -1 (R343) -/
  | c0101011 (dest : Dest) (jump : Jump)
  /-- `C.0101100`: `a` = 0, `c` = 101100, out = 0 (R344) -/
  | c0101100 (dest : Dest) (jump : Jump)
  /-- `C.0101101`: `a` = 0, `c` = 101101, out = -1 (R345) -/
  | c0101101 (dest : Dest) (jump : Jump)
  /-- `C.0101110`: `a` = 0, `c` = 101110, out = -1 (R346) -/
  | c0101110 (dest : Dest) (jump : Jump)
  /-- `C.0101111`: `a` = 0, `c` = 101111, out = 0 (R347) -/
  | c0101111 (dest : Dest) (jump : Jump)
  /-- `A`: `a` = 0, `c` = 110000, out = A (R348) -/
  | compA (dest : Dest) (jump : Jump)
  /-- `!A`: `a` = 0, `c` = 110001, out = ~A (R349) -/
  | notA (dest : Dest) (jump : Jump)
  /-- `A-1`: `a` = 0, `c` = 110010, out = A - 1 (R350) -/
  | aMinus1 (dest : Dest) (jump : Jump)
  /-- `-A`: `a` = 0, `c` = 110011, out = -A (R351) -/
  | negA (dest : Dest) (jump : Jump)
  /-- `C.0110100`: `a` = 0, `c` = 110100, out = ~A (R352) -/
  | c0110100 (dest : Dest) (jump : Jump)
  /-- `C.0110101`: `a` = 0, `c` = 110101, out = A (R353) -/
  | c0110101 (dest : Dest) (jump : Jump)
  /-- `C.0110110`: `a` = 0, `c` = 110110, out = -A - 2 (R354) -/
  | c0110110 (dest : Dest) (jump : Jump)
  /-- `A+1`: `a` = 0, `c` = 110111, out = A + 1 (R355) -/
  | aPlus1 (dest : Dest) (jump : Jump)
  /-- `C.0111000`: `a` = 0, `c` = 111000, out = 0 (R356) -/
  | c0111000 (dest : Dest) (jump : Jump)
  /-- `C.0111001`: `a` = 0, `c` = 111001, out = -1 (R357) -/
  | c0111001 (dest : Dest) (jump : Jump)
  /-- `-1`: `a` = 0, `c` = 111010, out = -1 (R358) -/
  | minus1 (dest : Dest) (jump : Jump)
  /-- `C.0111011`: `a` = 0, `c` = 111011, out = 0 (R359) -/
  | c0111011 (dest : Dest) (jump : Jump)
  /-- `C.0111100`: `a` = 0, `c` = 111100, out = -1 (R360) -/
  | c0111100 (dest : Dest) (jump : Jump)
  /-- `C.0111101`: `a` = 0, `c` = 111101, out = 0 (R361) -/
  | c0111101 (dest : Dest) (jump : Jump)
  /-- `C.0111110`: `a` = 0, `c` = 111110, out = -2 (R362) -/
  | c0111110 (dest : Dest) (jump : Jump)
  /-- `1`: `a` = 0, `c` = 111111, out = 1 (R363) -/
  | one (dest : Dest) (jump : Jump)
  /-- `D&M`: `a` = 1, `c` = 000000, out = D & M (R300) -/
  | dAndM (dest : Dest) (jump : Jump)
  /-- `C.1000001`: `a` = 1, `c` = 000001, out = ~(D & M) (R301) -/
  | c1000001 (dest : Dest) (jump : Jump)
  /-- `D+M`: `a` = 1, `c` = 000010, out = D + M (R302) -/
  | dPlusM (dest : Dest) (jump : Jump)
  /-- `C.1000011`: `a` = 1, `c` = 000011, out = -D - M - 1 (R303) -/
  | c1000011 (dest : Dest) (jump : Jump)
  /-- `C.1000100`: `a` = 1, `c` = 000100, out = D & ~M (R304) -/
  | c1000100 (dest : Dest) (jump : Jump)
  /-- `C.1000101`: `a` = 1, `c` = 000101, out = ~D | M (R305) -/
  | c1000101 (dest : Dest) (jump : Jump)
  /-- `C.1000110`: `a` = 1, `c` = 000110, out = D - M - 1 (R306) -/
  | c1000110 (dest : Dest) (jump : Jump)
  /-- `M-D`: `a` = 1, `c` = 000111, out = M - D (R307) -/
  | mMinusD (dest : Dest) (jump : Jump)
  /-- `C.1001000`: `a` = 1, `c` = 001000, out = 0 (R308) -/
  | c1001000 (dest : Dest) (jump : Jump)
  /-- `C.1001001`: `a` = 1, `c` = 001001, out = -1 (R309) -/
  | c1001001 (dest : Dest) (jump : Jump)
  /-- `C.1001010`: `a` = 1, `c` = 001010, out = D (R310) -/
  | c1001010 (dest : Dest) (jump : Jump)
  /-- `C.1001011`: `a` = 1, `c` = 001011, out = ~D (R311) -/
  | c1001011 (dest : Dest) (jump : Jump)
  /-- `C.1001100`: `a` = 1, `c` = 001100, out = D (R312) -/
  | c1001100 (dest : Dest) (jump : Jump)
  /-- `C.1001101`: `a` = 1, `c` = 001101, out = ~D (R313) -/
  | c1001101 (dest : Dest) (jump : Jump)
  /-- `C.1001110`: `a` = 1, `c` = 001110, out = D - 1 (R314) -/
  | c1001110 (dest : Dest) (jump : Jump)
  /-- `C.1001111`: `a` = 1, `c` = 001111, out = -D (R315) -/
  | c1001111 (dest : Dest) (jump : Jump)
  /-- `C.1010000`: `a` = 1, `c` = 010000, out = ~D & M (R316) -/
  | c1010000 (dest : Dest) (jump : Jump)
  /-- `C.1010001`: `a` = 1, `c` = 010001, out = D | ~M (R317) -/
  | c1010001 (dest : Dest) (jump : Jump)
  /-- `C.1010010`: `a` = 1, `c` = 010010, out = M - D - 1 (R318) -/
  | c1010010 (dest : Dest) (jump : Jump)
  /-- `D-M`: `a` = 1, `c` = 010011, out = D - M (R319) -/
  | dMinusM (dest : Dest) (jump : Jump)
  /-- `C.1010100`: `a` = 1, `c` = 010100, out = ~(D | M) (R320) -/
  | c1010100 (dest : Dest) (jump : Jump)
  /-- `D|M`: `a` = 1, `c` = 010101, out = D | M (R321) -/
  | dOrM (dest : Dest) (jump : Jump)
  /-- `C.1010110`: `a` = 1, `c` = 010110, out = -D - M - 2 (R322) -/
  | c1010110 (dest : Dest) (jump : Jump)
  /-- `C.1010111`: `a` = 1, `c` = 010111, out = D + M + 1 (R323) -/
  | c1010111 (dest : Dest) (jump : Jump)
  /-- `C.1011000`: `a` = 1, `c` = 011000, out = 0 (R324) -/
  | c1011000 (dest : Dest) (jump : Jump)
  /-- `C.1011001`: `a` = 1, `c` = 011001, out = -1 (R325) -/
  | c1011001 (dest : Dest) (jump : Jump)
  /-- `C.1011010`: `a` = 1, `c` = 011010, out = ~D (R326) -/
  | c1011010 (dest : Dest) (jump : Jump)
  /-- `C.1011011`: `a` = 1, `c` = 011011, out = D (R327) -/
  | c1011011 (dest : Dest) (jump : Jump)
  /-- `C.1011100`: `a` = 1, `c` = 011100, out = ~D (R328) -/
  | c1011100 (dest : Dest) (jump : Jump)
  /-- `C.1011101`: `a` = 1, `c` = 011101, out = D (R329) -/
  | c1011101 (dest : Dest) (jump : Jump)
  /-- `C.1011110`: `a` = 1, `c` = 011110, out = -D - 2 (R330) -/
  | c1011110 (dest : Dest) (jump : Jump)
  /-- `C.1011111`: `a` = 1, `c` = 011111, out = D + 1 (R331) -/
  | c1011111 (dest : Dest) (jump : Jump)
  /-- `C.1100000`: `a` = 1, `c` = 100000, out = 0 (R332) -/
  | c1100000 (dest : Dest) (jump : Jump)
  /-- `C.1100001`: `a` = 1, `c` = 100001, out = -1 (R333) -/
  | c1100001 (dest : Dest) (jump : Jump)
  /-- `C.1100010`: `a` = 1, `c` = 100010, out = M (R334) -/
  | c1100010 (dest : Dest) (jump : Jump)
  /-- `C.1100011`: `a` = 1, `c` = 100011, out = ~M (R335) -/
  | c1100011 (dest : Dest) (jump : Jump)
  /-- `C.1100100`: `a` = 1, `c` = 100100, out = 0 (R336) -/
  | c1100100 (dest : Dest) (jump : Jump)
  /-- `C.1100101`: `a` = 1, `c` = 100101, out = -1 (R337) -/
  | c1100101 (dest : Dest) (jump : Jump)
  /-- `C.1100110`: `a` = 1, `c` = 100110, out = ~M (R338) -/
  | c1100110 (dest : Dest) (jump : Jump)
  /-- `C.1100111`: `a` = 1, `c` = 100111, out = M (R339) -/
  | c1100111 (dest : Dest) (jump : Jump)
  /-- `C.1101000`: `a` = 1, `c` = 101000, out = 0 (R340) -/
  | c1101000 (dest : Dest) (jump : Jump)
  /-- `C.1101001`: `a` = 1, `c` = 101001, out = -1 (R341) -/
  | c1101001 (dest : Dest) (jump : Jump)
  /-- `C.1101010`: `a` = 1, `c` = 101010, out = 0 (R342) -/
  | c1101010 (dest : Dest) (jump : Jump)
  /-- `C.1101011`: `a` = 1, `c` = 101011, out = -1 (R343) -/
  | c1101011 (dest : Dest) (jump : Jump)
  /-- `C.1101100`: `a` = 1, `c` = 101100, out = 0 (R344) -/
  | c1101100 (dest : Dest) (jump : Jump)
  /-- `C.1101101`: `a` = 1, `c` = 101101, out = -1 (R345) -/
  | c1101101 (dest : Dest) (jump : Jump)
  /-- `C.1101110`: `a` = 1, `c` = 101110, out = -1 (R346) -/
  | c1101110 (dest : Dest) (jump : Jump)
  /-- `C.1101111`: `a` = 1, `c` = 101111, out = 0 (R347) -/
  | c1101111 (dest : Dest) (jump : Jump)
  /-- `M`: `a` = 1, `c` = 110000, out = M (R348) -/
  | compM (dest : Dest) (jump : Jump)
  /-- `!M`: `a` = 1, `c` = 110001, out = ~M (R349) -/
  | notM (dest : Dest) (jump : Jump)
  /-- `M-1`: `a` = 1, `c` = 110010, out = M - 1 (R350) -/
  | mMinus1 (dest : Dest) (jump : Jump)
  /-- `-M`: `a` = 1, `c` = 110011, out = -M (R351) -/
  | negM (dest : Dest) (jump : Jump)
  /-- `C.1110100`: `a` = 1, `c` = 110100, out = ~M (R352) -/
  | c1110100 (dest : Dest) (jump : Jump)
  /-- `C.1110101`: `a` = 1, `c` = 110101, out = M (R353) -/
  | c1110101 (dest : Dest) (jump : Jump)
  /-- `C.1110110`: `a` = 1, `c` = 110110, out = -M - 2 (R354) -/
  | c1110110 (dest : Dest) (jump : Jump)
  /-- `M+1`: `a` = 1, `c` = 110111, out = M + 1 (R355) -/
  | mPlus1 (dest : Dest) (jump : Jump)
  /-- `C.1111000`: `a` = 1, `c` = 111000, out = 0 (R356) -/
  | c1111000 (dest : Dest) (jump : Jump)
  /-- `C.1111001`: `a` = 1, `c` = 111001, out = -1 (R357) -/
  | c1111001 (dest : Dest) (jump : Jump)
  /-- `C.1111010`: `a` = 1, `c` = 111010, out = -1 (R358) -/
  | c1111010 (dest : Dest) (jump : Jump)
  /-- `C.1111011`: `a` = 1, `c` = 111011, out = 0 (R359) -/
  | c1111011 (dest : Dest) (jump : Jump)
  /-- `C.1111100`: `a` = 1, `c` = 111100, out = -1 (R360) -/
  | c1111100 (dest : Dest) (jump : Jump)
  /-- `C.1111101`: `a` = 1, `c` = 111101, out = 0 (R361) -/
  | c1111101 (dest : Dest) (jump : Jump)
  /-- `C.1111110`: `a` = 1, `c` = 111110, out = -2 (R362) -/
  | c1111110 (dest : Dest) (jump : Jump)
  /-- `C.1111111`: `a` = 1, `c` = 111111, out = 1 (R363) -/
  | c1111111 (dest : Dest) (jump : Jump)
deriving DecidableEq, Repr

end Sys2Proof
end

