-- ==== Sys2Proof/Decode.lean ====
section
/-! DEFINITION. Decoding and encoding (30_encoding.md).  Every 16-bit word is an instruction (R95), so decoding a word
is total; a word that is not there is rejected by name. -/

namespace Sys2Proof

/-- Field `jump`, bits 2..0 (R87, table R100; the numbering is decision D6, log entry 12). -/
def Jump.code : Jump → BitVec 3
  | .never => 0b000#3
  | .jgt => 0b001#3
  | .jeq => 0b010#3
  | .jge => 0b011#3
  | .jlt => 0b100#3
  | .jne => 0b101#3
  | .jle => 0b110#3
  | .jmp => 0b111#3

/-- The jump condition a code stands for (table R100). -/
def Jump.ofCode (j : BitVec 3) : Jump :=
  match j.getLsbD 2, j.getLsbD 1, j.getLsbD 0 with
  | false, false, false => .never
  | false, false, true => .jgt
  | false, true, false => .jeq
  | false, true, true => .jge
  | true, false, false => .jlt
  | true, false, true => .jne
  | true, true, false => .jle
  | true, true, true => .jmp

/-- Field `dest`, bits 5..3, `dA` the most significant (R86, table R94). -/
def Dest.code (d : Dest) : BitVec 3 := BitVec.ofBool d.a ++ BitVec.ofBool d.d ++ BitVec.ofBool d.m

/-- The destinations a `dest` field selects (R86). -/
def Dest.ofCode (d : BitVec 3) : Dest := { a := d.getLsbD 2, d := d.getLsbD 1, m := d.getLsbD 0 }

/-- Field `a`, bit 12 (R84). -/
def SrcY.code : SrcY → Signal
  | .regA => false
  | .inM => true

/-- The second operand a value of `a` selects (R84). -/
def SrcY.ofCode (a : Signal) : SrcY := if a then .inM else .regA

/-- The compute instruction with the given `a` and `c` (R92: rows 2 to 129 of the opcode table).  The bits are matched
in the order `a`, `zx`, `nx`, `zy`, `ny`, `f`, `no`. -/
def Instr.ofFields (src : SrcY) (c : BitVec 6) (dest : Dest) (jump : Jump) : Instr :=
  match src.code, c.getLsbD 5, c.getLsbD 4, c.getLsbD 3, c.getLsbD 2, c.getLsbD 1, c.getLsbD 0 with
  | false, false, false, false, false, false, false => .dAndA dest jump
  | false, false, false, false, false, false, true => .c0000001 dest jump
  | false, false, false, false, false, true, false => .dPlusA dest jump
  | false, false, false, false, false, true, true => .c0000011 dest jump
  | false, false, false, false, true, false, false => .c0000100 dest jump
  | false, false, false, false, true, false, true => .c0000101 dest jump
  | false, false, false, false, true, true, false => .c0000110 dest jump
  | false, false, false, false, true, true, true => .aMinusD dest jump
  | false, false, false, true, false, false, false => .c0001000 dest jump
  | false, false, false, true, false, false, true => .c0001001 dest jump
  | false, false, false, true, false, true, false => .c0001010 dest jump
  | false, false, false, true, false, true, true => .c0001011 dest jump
  | false, false, false, true, true, false, false => .compD dest jump
  | false, false, false, true, true, false, true => .notD dest jump
  | false, false, false, true, true, true, false => .dMinus1 dest jump
  | false, false, false, true, true, true, true => .negD dest jump
  | false, false, true, false, false, false, false => .c0010000 dest jump
  | false, false, true, false, false, false, true => .c0010001 dest jump
  | false, false, true, false, false, true, false => .c0010010 dest jump
  | false, false, true, false, false, true, true => .dMinusA dest jump
  | false, false, true, false, true, false, false => .c0010100 dest jump
  | false, false, true, false, true, false, true => .dOrA dest jump
  | false, false, true, false, true, true, false => .c0010110 dest jump
  | false, false, true, false, true, true, true => .c0010111 dest jump
  | false, false, true, true, false, false, false => .c0011000 dest jump
  | false, false, true, true, false, false, true => .c0011001 dest jump
  | false, false, true, true, false, true, false => .c0011010 dest jump
  | false, false, true, true, false, true, true => .c0011011 dest jump
  | false, false, true, true, true, false, false => .c0011100 dest jump
  | false, false, true, true, true, false, true => .c0011101 dest jump
  | false, false, true, true, true, true, false => .c0011110 dest jump
  | false, false, true, true, true, true, true => .dPlus1 dest jump
  | false, true, false, false, false, false, false => .c0100000 dest jump
  | false, true, false, false, false, false, true => .c0100001 dest jump
  | false, true, false, false, false, true, false => .c0100010 dest jump
  | false, true, false, false, false, true, true => .c0100011 dest jump
  | false, true, false, false, true, false, false => .c0100100 dest jump
  | false, true, false, false, true, false, true => .c0100101 dest jump
  | false, true, false, false, true, true, false => .c0100110 dest jump
  | false, true, false, false, true, true, true => .c0100111 dest jump
  | false, true, false, true, false, false, false => .c0101000 dest jump
  | false, true, false, true, false, false, true => .c0101001 dest jump
  | false, true, false, true, false, true, false => .zero dest jump
  | false, true, false, true, false, true, true => .c0101011 dest jump
  | false, true, false, true, true, false, false => .c0101100 dest jump
  | false, true, false, true, true, false, true => .c0101101 dest jump
  | false, true, false, true, true, true, false => .c0101110 dest jump
  | false, true, false, true, true, true, true => .c0101111 dest jump
  | false, true, true, false, false, false, false => .compA dest jump
  | false, true, true, false, false, false, true => .notA dest jump
  | false, true, true, false, false, true, false => .aMinus1 dest jump
  | false, true, true, false, false, true, true => .negA dest jump
  | false, true, true, false, true, false, false => .c0110100 dest jump
  | false, true, true, false, true, false, true => .c0110101 dest jump
  | false, true, true, false, true, true, false => .c0110110 dest jump
  | false, true, true, false, true, true, true => .aPlus1 dest jump
  | false, true, true, true, false, false, false => .c0111000 dest jump
  | false, true, true, true, false, false, true => .c0111001 dest jump
  | false, true, true, true, false, true, false => .minus1 dest jump
  | false, true, true, true, false, true, true => .c0111011 dest jump
  | false, true, true, true, true, false, false => .c0111100 dest jump
  | false, true, true, true, true, false, true => .c0111101 dest jump
  | false, true, true, true, true, true, false => .c0111110 dest jump
  | false, true, true, true, true, true, true => .one dest jump
  | true, false, false, false, false, false, false => .dAndM dest jump
  | true, false, false, false, false, false, true => .c1000001 dest jump
  | true, false, false, false, false, true, false => .dPlusM dest jump
  | true, false, false, false, false, true, true => .c1000011 dest jump
  | true, false, false, false, true, false, false => .c1000100 dest jump
  | true, false, false, false, true, false, true => .c1000101 dest jump
  | true, false, false, false, true, true, false => .c1000110 dest jump
  | true, false, false, false, true, true, true => .mMinusD dest jump
  | true, false, false, true, false, false, false => .c1001000 dest jump
  | true, false, false, true, false, false, true => .c1001001 dest jump
  | true, false, false, true, false, true, false => .c1001010 dest jump
  | true, false, false, true, false, true, true => .c1001011 dest jump
  | true, false, false, true, true, false, false => .c1001100 dest jump
  | true, false, false, true, true, false, true => .c1001101 dest jump
  | true, false, false, true, true, true, false => .c1001110 dest jump
  | true, false, false, true, true, true, true => .c1001111 dest jump
  | true, false, true, false, false, false, false => .c1010000 dest jump
  | true, false, true, false, false, false, true => .c1010001 dest jump
  | true, false, true, false, false, true, false => .c1010010 dest jump
  | true, false, true, false, false, true, true => .dMinusM dest jump
  | true, false, true, false, true, false, false => .c1010100 dest jump
  | true, false, true, false, true, false, true => .dOrM dest jump
  | true, false, true, false, true, true, false => .c1010110 dest jump
  | true, false, true, false, true, true, true => .c1010111 dest jump
  | true, false, true, true, false, false, false => .c1011000 dest jump
  | true, false, true, true, false, false, true => .c1011001 dest jump
  | true, false, true, true, false, true, false => .c1011010 dest jump
  | true, false, true, true, false, true, true => .c1011011 dest jump
  | true, false, true, true, true, false, false => .c1011100 dest jump
  | true, false, true, true, true, false, true => .c1011101 dest jump
  | true, false, true, true, true, true, false => .c1011110 dest jump
  | true, false, true, true, true, true, true => .c1011111 dest jump
  | true, true, false, false, false, false, false => .c1100000 dest jump
  | true, true, false, false, false, false, true => .c1100001 dest jump
  | true, true, false, false, false, true, false => .c1100010 dest jump
  | true, true, false, false, false, true, true => .c1100011 dest jump
  | true, true, false, false, true, false, false => .c1100100 dest jump
  | true, true, false, false, true, false, true => .c1100101 dest jump
  | true, true, false, false, true, true, false => .c1100110 dest jump
  | true, true, false, false, true, true, true => .c1100111 dest jump
  | true, true, false, true, false, false, false => .c1101000 dest jump
  | true, true, false, true, false, false, true => .c1101001 dest jump
  | true, true, false, true, false, true, false => .c1101010 dest jump
  | true, true, false, true, false, true, true => .c1101011 dest jump
  | true, true, false, true, true, false, false => .c1101100 dest jump
  | true, true, false, true, true, false, true => .c1101101 dest jump
  | true, true, false, true, true, true, false => .c1101110 dest jump
  | true, true, false, true, true, true, true => .c1101111 dest jump
  | true, true, true, false, false, false, false => .compM dest jump
  | true, true, true, false, false, false, true => .notM dest jump
  | true, true, true, false, false, true, false => .mMinus1 dest jump
  | true, true, true, false, false, true, true => .negM dest jump
  | true, true, true, false, true, false, false => .c1110100 dest jump
  | true, true, true, false, true, false, true => .c1110101 dest jump
  | true, true, true, false, true, true, false => .c1110110 dest jump
  | true, true, true, false, true, true, true => .mPlus1 dest jump
  | true, true, true, true, false, false, false => .c1111000 dest jump
  | true, true, true, true, false, false, true => .c1111001 dest jump
  | true, true, true, true, false, true, false => .c1111010 dest jump
  | true, true, true, true, false, true, true => .c1111011 dest jump
  | true, true, true, true, true, false, false => .c1111100 dest jump
  | true, true, true, true, true, false, true => .c1111101 dest jump
  | true, true, true, true, true, true, false => .c1111110 dest jump
  | true, true, true, true, true, true, true => .c1111111 dest jump

/-- The instruction a word is (R80 to R88).  Bit 15 selects the format (R81); bits 14..13 of a compute instruction are
read by nothing (R88, decision D7, log entry 13). -/
def decodeWord (w : Word) : Instr :=
  if w.getLsbD 15 then
    .ofFields (.ofCode (w.getLsbD 12)) (w.extractLsb' 6 6) (.ofCode (w.extractLsb' 3 3)) (.ofCode (w.extractLsb' 0 3))
  else .loadAddr (w.extractLsb' 0 15)

/-- Why decoding a list of words gives no instruction. -/
inductive DecodeError where
  /-- there is no word: raised by `decode` on the empty list.  Safe: the machine's own fetch always has a word (R251). -/
  | noWord
deriving DecidableEq, Repr

/-- Decode the first instruction of a list of words and give the rest: one instruction is one word, there is no prefix
and no extension word (R80, R98). -/
def decode : List Word → Except DecodeError (Instr × List Word)
  | [] => .error .noWord
  | w :: rest => .ok (decodeWord w, rest)

/-- The format and fields of an instruction: the `a` and `c` of its row of the opcode table. -/
def Instr.shape : Instr → Shape
  | .loadAddr value => .load value
  | .dAndA dest jump => .comp .regA 0b000000#6 dest jump
  | .c0000001 dest jump => .comp .regA 0b000001#6 dest jump
  | .dPlusA dest jump => .comp .regA 0b000010#6 dest jump
  | .c0000011 dest jump => .comp .regA 0b000011#6 dest jump
  | .c0000100 dest jump => .comp .regA 0b000100#6 dest jump
  | .c0000101 dest jump => .comp .regA 0b000101#6 dest jump
  | .c0000110 dest jump => .comp .regA 0b000110#6 dest jump
  | .aMinusD dest jump => .comp .regA 0b000111#6 dest jump
  | .c0001000 dest jump => .comp .regA 0b001000#6 dest jump
  | .c0001001 dest jump => .comp .regA 0b001001#6 dest jump
  | .c0001010 dest jump => .comp .regA 0b001010#6 dest jump
  | .c0001011 dest jump => .comp .regA 0b001011#6 dest jump
  | .compD dest jump => .comp .regA 0b001100#6 dest jump
  | .notD dest jump => .comp .regA 0b001101#6 dest jump
  | .dMinus1 dest jump => .comp .regA 0b001110#6 dest jump
  | .negD dest jump => .comp .regA 0b001111#6 dest jump
  | .c0010000 dest jump => .comp .regA 0b010000#6 dest jump
  | .c0010001 dest jump => .comp .regA 0b010001#6 dest jump
  | .c0010010 dest jump => .comp .regA 0b010010#6 dest jump
  | .dMinusA dest jump => .comp .regA 0b010011#6 dest jump
  | .c0010100 dest jump => .comp .regA 0b010100#6 dest jump
  | .dOrA dest jump => .comp .regA 0b010101#6 dest jump
  | .c0010110 dest jump => .comp .regA 0b010110#6 dest jump
  | .c0010111 dest jump => .comp .regA 0b010111#6 dest jump
  | .c0011000 dest jump => .comp .regA 0b011000#6 dest jump
  | .c0011001 dest jump => .comp .regA 0b011001#6 dest jump
  | .c0011010 dest jump => .comp .regA 0b011010#6 dest jump
  | .c0011011 dest jump => .comp .regA 0b011011#6 dest jump
  | .c0011100 dest jump => .comp .regA 0b011100#6 dest jump
  | .c0011101 dest jump => .comp .regA 0b011101#6 dest jump
  | .c0011110 dest jump => .comp .regA 0b011110#6 dest jump
  | .dPlus1 dest jump => .comp .regA 0b011111#6 dest jump
  | .c0100000 dest jump => .comp .regA 0b100000#6 dest jump
  | .c0100001 dest jump => .comp .regA 0b100001#6 dest jump
  | .c0100010 dest jump => .comp .regA 0b100010#6 dest jump
  | .c0100011 dest jump => .comp .regA 0b100011#6 dest jump
  | .c0100100 dest jump => .comp .regA 0b100100#6 dest jump
  | .c0100101 dest jump => .comp .regA 0b100101#6 dest jump
  | .c0100110 dest jump => .comp .regA 0b100110#6 dest jump
  | .c0100111 dest jump => .comp .regA 0b100111#6 dest jump
  | .c0101000 dest jump => .comp .regA 0b101000#6 dest jump
  | .c0101001 dest jump => .comp .regA 0b101001#6 dest jump
  | .zero dest jump => .comp .regA 0b101010#6 dest jump
  | .c0101011 dest jump => .comp .regA 0b101011#6 dest jump
  | .c0101100 dest jump => .comp .regA 0b101100#6 dest jump
  | .c0101101 dest jump => .comp .regA 0b101101#6 dest jump
  | .c0101110 dest jump => .comp .regA 0b101110#6 dest jump
  | .c0101111 dest jump => .comp .regA 0b101111#6 dest jump
  | .compA dest jump => .comp .regA 0b110000#6 dest jump
  | .notA dest jump => .comp .regA 0b110001#6 dest jump
  | .aMinus1 dest jump => .comp .regA 0b110010#6 dest jump
  | .negA dest jump => .comp .regA 0b110011#6 dest jump
  | .c0110100 dest jump => .comp .regA 0b110100#6 dest jump
  | .c0110101 dest jump => .comp .regA 0b110101#6 dest jump
  | .c0110110 dest jump => .comp .regA 0b110110#6 dest jump
  | .aPlus1 dest jump => .comp .regA 0b110111#6 dest jump
  | .c0111000 dest jump => .comp .regA 0b111000#6 dest jump
  | .c0111001 dest jump => .comp .regA 0b111001#6 dest jump
  | .minus1 dest jump => .comp .regA 0b111010#6 dest jump
  | .c0111011 dest jump => .comp .regA 0b111011#6 dest jump
  | .c0111100 dest jump => .comp .regA 0b111100#6 dest jump
  | .c0111101 dest jump => .comp .regA 0b111101#6 dest jump
  | .c0111110 dest jump => .comp .regA 0b111110#6 dest jump
  | .one dest jump => .comp .regA 0b111111#6 dest jump
  | .dAndM dest jump => .comp .inM 0b000000#6 dest jump
  | .c1000001 dest jump => .comp .inM 0b000001#6 dest jump
  | .dPlusM dest jump => .comp .inM 0b000010#6 dest jump
  | .c1000011 dest jump => .comp .inM 0b000011#6 dest jump
  | .c1000100 dest jump => .comp .inM 0b000100#6 dest jump
  | .c1000101 dest jump => .comp .inM 0b000101#6 dest jump
  | .c1000110 dest jump => .comp .inM 0b000110#6 dest jump
  | .mMinusD dest jump => .comp .inM 0b000111#6 dest jump
  | .c1001000 dest jump => .comp .inM 0b001000#6 dest jump
  | .c1001001 dest jump => .comp .inM 0b001001#6 dest jump
  | .c1001010 dest jump => .comp .inM 0b001010#6 dest jump
  | .c1001011 dest jump => .comp .inM 0b001011#6 dest jump
  | .c1001100 dest jump => .comp .inM 0b001100#6 dest jump
  | .c1001101 dest jump => .comp .inM 0b001101#6 dest jump
  | .c1001110 dest jump => .comp .inM 0b001110#6 dest jump
  | .c1001111 dest jump => .comp .inM 0b001111#6 dest jump
  | .c1010000 dest jump => .comp .inM 0b010000#6 dest jump
  | .c1010001 dest jump => .comp .inM 0b010001#6 dest jump
  | .c1010010 dest jump => .comp .inM 0b010010#6 dest jump
  | .dMinusM dest jump => .comp .inM 0b010011#6 dest jump
  | .c1010100 dest jump => .comp .inM 0b010100#6 dest jump
  | .dOrM dest jump => .comp .inM 0b010101#6 dest jump
  | .c1010110 dest jump => .comp .inM 0b010110#6 dest jump
  | .c1010111 dest jump => .comp .inM 0b010111#6 dest jump
  | .c1011000 dest jump => .comp .inM 0b011000#6 dest jump
  | .c1011001 dest jump => .comp .inM 0b011001#6 dest jump
  | .c1011010 dest jump => .comp .inM 0b011010#6 dest jump
  | .c1011011 dest jump => .comp .inM 0b011011#6 dest jump
  | .c1011100 dest jump => .comp .inM 0b011100#6 dest jump
  | .c1011101 dest jump => .comp .inM 0b011101#6 dest jump
  | .c1011110 dest jump => .comp .inM 0b011110#6 dest jump
  | .c1011111 dest jump => .comp .inM 0b011111#6 dest jump
  | .c1100000 dest jump => .comp .inM 0b100000#6 dest jump
  | .c1100001 dest jump => .comp .inM 0b100001#6 dest jump
  | .c1100010 dest jump => .comp .inM 0b100010#6 dest jump
  | .c1100011 dest jump => .comp .inM 0b100011#6 dest jump
  | .c1100100 dest jump => .comp .inM 0b100100#6 dest jump
  | .c1100101 dest jump => .comp .inM 0b100101#6 dest jump
  | .c1100110 dest jump => .comp .inM 0b100110#6 dest jump
  | .c1100111 dest jump => .comp .inM 0b100111#6 dest jump
  | .c1101000 dest jump => .comp .inM 0b101000#6 dest jump
  | .c1101001 dest jump => .comp .inM 0b101001#6 dest jump
  | .c1101010 dest jump => .comp .inM 0b101010#6 dest jump
  | .c1101011 dest jump => .comp .inM 0b101011#6 dest jump
  | .c1101100 dest jump => .comp .inM 0b101100#6 dest jump
  | .c1101101 dest jump => .comp .inM 0b101101#6 dest jump
  | .c1101110 dest jump => .comp .inM 0b101110#6 dest jump
  | .c1101111 dest jump => .comp .inM 0b101111#6 dest jump
  | .compM dest jump => .comp .inM 0b110000#6 dest jump
  | .notM dest jump => .comp .inM 0b110001#6 dest jump
  | .mMinus1 dest jump => .comp .inM 0b110010#6 dest jump
  | .negM dest jump => .comp .inM 0b110011#6 dest jump
  | .c1110100 dest jump => .comp .inM 0b110100#6 dest jump
  | .c1110101 dest jump => .comp .inM 0b110101#6 dest jump
  | .c1110110 dest jump => .comp .inM 0b110110#6 dest jump
  | .mPlus1 dest jump => .comp .inM 0b110111#6 dest jump
  | .c1111000 dest jump => .comp .inM 0b111000#6 dest jump
  | .c1111001 dest jump => .comp .inM 0b111001#6 dest jump
  | .c1111010 dest jump => .comp .inM 0b111010#6 dest jump
  | .c1111011 dest jump => .comp .inM 0b111011#6 dest jump
  | .c1111100 dest jump => .comp .inM 0b111100#6 dest jump
  | .c1111101 dest jump => .comp .inM 0b111101#6 dest jump
  | .c1111110 dest jump => .comp .inM 0b111110#6 dest jump
  | .c1111111 dest jump => .comp .inM 0b111111#6 dest jump

/-- The word of an instruction (tables R82 and R83).  An encoder emits bits 14..13 of a compute instruction as 11
(R88, decision D7, log entry 13). -/
def encodeWord (i : Instr) : Word :=
  match i.shape with
  | .load value => 0b0#1 ++ value
  | .comp src c dest jump => 0b111#3 ++ BitVec.ofBool src.code ++ c ++ dest.code ++ jump.code

/-- The words of an instruction: always exactly one (R80). -/
def encode (i : Instr) : List Word := [encodeWord i]

/-- The mask of an instruction's row of spec/opcode_table.json: bit 15 for a load-address instruction; bit 15, bit 12 and
bits 11..6 for a compute instruction (R92). -/
def Instr.tableMask (i : Instr) : Word :=
  match i.shape with
  | .load _ => 0x8000#16
  | .comp _ _ _ _ => 0x9FC0#16

/-- The match value of an instruction's row of spec/opcode_table.json (R92). -/
def Instr.tableMatch : Instr → Word
  | .loadAddr _ => 0x0000#16
  | .dAndA _ _ => 0x8000#16
  | .c0000001 _ _ => 0x8040#16
  | .dPlusA _ _ => 0x8080#16
  | .c0000011 _ _ => 0x80C0#16
  | .c0000100 _ _ => 0x8100#16
  | .c0000101 _ _ => 0x8140#16
  | .c0000110 _ _ => 0x8180#16
  | .aMinusD _ _ => 0x81C0#16
  | .c0001000 _ _ => 0x8200#16
  | .c0001001 _ _ => 0x8240#16
  | .c0001010 _ _ => 0x8280#16
  | .c0001011 _ _ => 0x82C0#16
  | .compD _ _ => 0x8300#16
  | .notD _ _ => 0x8340#16
  | .dMinus1 _ _ => 0x8380#16
  | .negD _ _ => 0x83C0#16
  | .c0010000 _ _ => 0x8400#16
  | .c0010001 _ _ => 0x8440#16
  | .c0010010 _ _ => 0x8480#16
  | .dMinusA _ _ => 0x84C0#16
  | .c0010100 _ _ => 0x8500#16
  | .dOrA _ _ => 0x8540#16
  | .c0010110 _ _ => 0x8580#16
  | .c0010111 _ _ => 0x85C0#16
  | .c0011000 _ _ => 0x8600#16
  | .c0011001 _ _ => 0x8640#16
  | .c0011010 _ _ => 0x8680#16
  | .c0011011 _ _ => 0x86C0#16
  | .c0011100 _ _ => 0x8700#16
  | .c0011101 _ _ => 0x8740#16
  | .c0011110 _ _ => 0x8780#16
  | .dPlus1 _ _ => 0x87C0#16
  | .c0100000 _ _ => 0x8800#16
  | .c0100001 _ _ => 0x8840#16
  | .c0100010 _ _ => 0x8880#16
  | .c0100011 _ _ => 0x88C0#16
  | .c0100100 _ _ => 0x8900#16
  | .c0100101 _ _ => 0x8940#16
  | .c0100110 _ _ => 0x8980#16
  | .c0100111 _ _ => 0x89C0#16
  | .c0101000 _ _ => 0x8A00#16
  | .c0101001 _ _ => 0x8A40#16
  | .zero _ _ => 0x8A80#16
  | .c0101011 _ _ => 0x8AC0#16
  | .c0101100 _ _ => 0x8B00#16
  | .c0101101 _ _ => 0x8B40#16
  | .c0101110 _ _ => 0x8B80#16
  | .c0101111 _ _ => 0x8BC0#16
  | .compA _ _ => 0x8C00#16
  | .notA _ _ => 0x8C40#16
  | .aMinus1 _ _ => 0x8C80#16
  | .negA _ _ => 0x8CC0#16
  | .c0110100 _ _ => 0x8D00#16
  | .c0110101 _ _ => 0x8D40#16
  | .c0110110 _ _ => 0x8D80#16
  | .aPlus1 _ _ => 0x8DC0#16
  | .c0111000 _ _ => 0x8E00#16
  | .c0111001 _ _ => 0x8E40#16
  | .minus1 _ _ => 0x8E80#16
  | .c0111011 _ _ => 0x8EC0#16
  | .c0111100 _ _ => 0x8F00#16
  | .c0111101 _ _ => 0x8F40#16
  | .c0111110 _ _ => 0x8F80#16
  | .one _ _ => 0x8FC0#16
  | .dAndM _ _ => 0x9000#16
  | .c1000001 _ _ => 0x9040#16
  | .dPlusM _ _ => 0x9080#16
  | .c1000011 _ _ => 0x90C0#16
  | .c1000100 _ _ => 0x9100#16
  | .c1000101 _ _ => 0x9140#16
  | .c1000110 _ _ => 0x9180#16
  | .mMinusD _ _ => 0x91C0#16
  | .c1001000 _ _ => 0x9200#16
  | .c1001001 _ _ => 0x9240#16
  | .c1001010 _ _ => 0x9280#16
  | .c1001011 _ _ => 0x92C0#16
  | .c1001100 _ _ => 0x9300#16
  | .c1001101 _ _ => 0x9340#16
  | .c1001110 _ _ => 0x9380#16
  | .c1001111 _ _ => 0x93C0#16
  | .c1010000 _ _ => 0x9400#16
  | .c1010001 _ _ => 0x9440#16
  | .c1010010 _ _ => 0x9480#16
  | .dMinusM _ _ => 0x94C0#16
  | .c1010100 _ _ => 0x9500#16
  | .dOrM _ _ => 0x9540#16
  | .c1010110 _ _ => 0x9580#16
  | .c1010111 _ _ => 0x95C0#16
  | .c1011000 _ _ => 0x9600#16
  | .c1011001 _ _ => 0x9640#16
  | .c1011010 _ _ => 0x9680#16
  | .c1011011 _ _ => 0x96C0#16
  | .c1011100 _ _ => 0x9700#16
  | .c1011101 _ _ => 0x9740#16
  | .c1011110 _ _ => 0x9780#16
  | .c1011111 _ _ => 0x97C0#16
  | .c1100000 _ _ => 0x9800#16
  | .c1100001 _ _ => 0x9840#16
  | .c1100010 _ _ => 0x9880#16
  | .c1100011 _ _ => 0x98C0#16
  | .c1100100 _ _ => 0x9900#16
  | .c1100101 _ _ => 0x9940#16
  | .c1100110 _ _ => 0x9980#16
  | .c1100111 _ _ => 0x99C0#16
  | .c1101000 _ _ => 0x9A00#16
  | .c1101001 _ _ => 0x9A40#16
  | .c1101010 _ _ => 0x9A80#16
  | .c1101011 _ _ => 0x9AC0#16
  | .c1101100 _ _ => 0x9B00#16
  | .c1101101 _ _ => 0x9B40#16
  | .c1101110 _ _ => 0x9B80#16
  | .c1101111 _ _ => 0x9BC0#16
  | .compM _ _ => 0x9C00#16
  | .notM _ _ => 0x9C40#16
  | .mMinus1 _ _ => 0x9C80#16
  | .negM _ _ => 0x9CC0#16
  | .c1110100 _ _ => 0x9D00#16
  | .c1110101 _ _ => 0x9D40#16
  | .c1110110 _ _ => 0x9D80#16
  | .mPlus1 _ _ => 0x9DC0#16
  | .c1111000 _ _ => 0x9E00#16
  | .c1111001 _ _ => 0x9E40#16
  | .c1111010 _ _ => 0x9E80#16
  | .c1111011 _ _ => 0x9EC0#16
  | .c1111100 _ _ => 0x9F00#16
  | .c1111101 _ _ => 0x9F40#16
  | .c1111110 _ _ => 0x9F80#16
  | .c1111111 _ _ => 0x9FC0#16

/-- The instruction the decoder reads from a table row's word of `nbits` bits, every bit above them 0.  An instruction
has 16 bits, so bits above 15 belong to no instruction and are not looked at; log entry 24. -/
def decodeTableWord (nbits w : Nat) : Option Instr :=
  match decode [BitVec.ofNat 16 (w % 2 ^ nbits)] with
  | .ok (i, _) => some i
  | .error _ => none

end Sys2Proof
end

