-- ==== Sys2Proof/Machine/Flags.lean ====
section
/-! DEFINITION. The ALU with its two flag signals, and the jump predicate, at the word level (41_arithmetic_alu.md R145 to
R149, 43_cpu_instructions.md R209).  The same blocks built from gates stand in Machine/Adders.lean.  The flags are
signals of one instruction and are stored nowhere (10_state.md R34). -/

namespace Sys2Proof.Machine

/-- What the ALU gives (R145). -/
structure AluOut where
  /-- the result -/
  out : Word
  /-- high iff the result is zero -/
  zr : Signal
  /-- high iff the result is negative -/
  ng : Signal
deriving DecidableEq, Repr

/-- `zr`: high iff every bit of `out` is low (R148). -/
def zeroFlag (out : Word) : Signal := out == 0#16

/-- `ng`: bit 15 of `out` (R149). -/
def negFlag (out : Word) : Signal := out.getLsbD 15

/-- A 2-way choice on a signal: the first word when it is low, the second when it is high (R116, R121). -/
def choose (low high : Word) (sel : Signal) : Word := if sel then high else low

/-- An ALU operand after its two stages: zeroed when `z` is high, then complemented when `n` is high (R146, R147). -/
def aluOperand (v : Word) (z n : Signal) : Word :=
  let v1 := choose v 0#16 z
  choose v1 (~~~v1) n

/-- The ALU's function stage: `and16` when `f` is low, `add16` when it is high (R146). -/
def aluFunction (x2 y2 : Word) (f : Signal) : Word := choose (x2 &&& y2) (x2 + y2) f

/-- The ALU (R145, R146), its flags those of the final result (R148, R149). -/
def alu (x y : Word) (zx nx zy ny f no : Signal) : AluOut :=
  let r := aluFunction (aluOperand x zx nx) (aluOperand y zy ny) f
  let out := choose r (~~~r) no
  { out := out, zr := zeroFlag out, ng := negFlag out }

/-- The ALU under the six controls of a `c` field, `zx` its bit 5 (R85, R204). -/
def aluOf (c : BitVec 6) (x y : Word) : AluOut :=
  alu x y (c.getLsbD 5) (c.getLsbD 4) (c.getLsbD 3) (c.getLsbD 2) (c.getLsbD 1) (c.getLsbD 0)

/-- The jump predicate from the flags and the three bits of the `jump` field (R209; the numbering of the codes is decision
D6, log entry 12). -/
def jumpPredicate (zr ng j2 j1 j0 : Signal) : Signal :=
  let ps := !zr && !ng
  (j2 && ng) || (j1 && zr) || (j0 && ps)

/-- The jump predicate of an instruction's own ALU output (R209, R210). -/
def Jump.taken (jump : Jump) (r : AluOut) : Signal :=
  jumpPredicate r.zr r.ng (jump.code.getLsbD 2) (jump.code.getLsbD 1) (jump.code.getLsbD 0)

end Sys2Proof.Machine
end

