-- ==== Sys2Proof/Machine/State.lean ====
section
/-! DEFINITION. The state of the machine at the register level: every row of table R20 (10_state.md), the inputs of the
coming steps as plain data (R38), and the step number.  The cell-level state of R21 stands in Machine/CellComputer.lean. -/

namespace Sys2Proof.Machine

/-- The contents of a store of words: the pairs of an address and the word there, addresses strictly rising, no word
equal to what an unlisted address reads as (`Memory.wf`).  The unit is the word, since the machine has no bytes (R51);
log entry 2. -/
abbrev Memory := List (Nat × Word)

/-- Why the machine stops with a fault: never.  The machine raises no exception and has no fault mechanism (60_exceptions.md
R400, R401; 93_implementation_defined.md: "Nothing in this machine is treated as `fault` or `stuck`"), so this type has no
constructor.  Log entry 25. -/
inductive Fault where
deriving DecidableEq, Repr

/-- Why a step is refused. -/
inductive Refusal where
  /-- raised by `exec` for an instruction that has no meaning in the model yet (there is none); safe, since the model
  stops where the hardware goes on -/
  | notModelled (mnemonic : String)
deriving DecidableEq, Repr

/-- The state of the machine before a step. -/
structure State where
  /-- the address register (R22) -/
  A : Word
  /-- the data register (R23) -/
  D : Word
  /-- the program counter register, 16 bits of which the low 15 are visible (R25, R26) -/
  PC : Word
  /-- the data word carried from the previous step, written `M` as an operand (R27) -/
  inM : Word
  /-- the carried fetch address (R28, R259) -/
  pc : Addr
  /-- the carried data address (R28, R259) -/
  addressM : Addr
  /-- RAM, 16384 words (R29) -/
  ram : Memory
  /-- the display, 8192 words, under their 13-bit addresses (R31, R56) -/
  screen : Memory
  /-- the word on the keyboard, which is `KBD(t)` of the coming step `t` (R32, R60); log entry 9 -/
  keyboard : Word
  /-- the counter of the CPU's private Clock (R33, R160) -/
  cpuClock : Nat
  /-- the counter of the external Clock (R33, R160) -/
  extClock : Nat
  /-- the instruction store, 32768 words (R30) -/
  rom : Memory
  /-- an input: `RESET(t)` of the coming steps, the coming step's first; low once the list is empty (R433, decision D15,
  log entry 8) -/
  resetIn : List Signal
  /-- an input: the words the host puts on the keyboard after each of the coming steps; the word stays as it is once the
  list is empty (R58, decision D19, log entry 9) -/
  keyIn : List Word
  /-- the number of the coming step (R12), to which the free value `HIGH_READ` is applied; the model's own field, log
  entry 11 -/
  t : Nat
deriving DecidableEq, Repr

/-- The machine right after power-on with nothing placed: the launch state of table R39 and R435 with the default launch
parameters (R434, D17, D20) and no host action to come.  Log entries 3 to 6, 8, 9, 11 and 14. -/
def State.reset : State where
  A := 0#16
  D := 0#16
  PC := 0#16
  inM := 0#16
  pc := 0#15
  addressM := 0#15
  ram := []
  screen := []
  keyboard := 0#16
  cpuClock := 0
  extClock := 0
  rom := []
  resetIn := []
  keyIn := []
  t := 0

end Sys2Proof.Machine
end

