-- ==== Sys2Proof/Machine/Operands.lean ====
section
/-! DEFINITION. The operand forms (30_encoding.md R84, R89, R90; 43_cpu_instructions.md R202, R203, R205, R206).  A
source is read before the CPU Clock's edge, so every one is a function of the state before the instruction. -/

namespace Sys2Proof.Machine

/-- The first ALU operand `x`: always the data register (R202; decision D22, log entry 20). -/
def operandX (s : State) : Word := s.D

/-- The second ALU operand `y`: `A` when `a` = 0, the carried `inM` when `a` = 1 (R203). -/
def operandY (src : SrcY) (s : State) : Word := choose s.A s.inM src.code

/-- The literal of a load-address instruction, zero-extended (R89). -/
def literal (value : BitVec 15) : Word := value.zeroExtend 16

/-- A register after the edge: loaded with `new` when `load` is high, held otherwise (R173, R205, R206). -/
def register (load : Signal) (new old : Word) : Word := choose old new load

end Sys2Proof.Machine
end

