-- ==== Sys2Proof/Machine/Ops.lean ====
section
/-! DEFINITION. The named operations over memory, registers and inputs, the register-level step (45_computer_step.md R262)
written once, and the two instruction formats over it (43_cpu_instructions.md R215, R216).  The machine takes no exception
and has no return from one (60_exceptions.md R400, R403), so there is no operation for either. -/

namespace Sys2Proof.Machine

open Host (Outcome)

/-! ### A store of words -/

/-- The word at an address; an unlisted address reads as `Config.unlistedWord`. -/
def Memory.read : Memory → Nat → Word
  | [], _ => Config.unlistedWord
  | (a, v) :: m, k => if a = k then v else Memory.read m k

/-- The store without any entry for an address. -/
def Memory.erase (m : Memory) (k : Nat) : Memory := m.filter (fun e => e.1 != k)

/-- Put an entry before the first one of a higher address. -/
def Memory.insert : Memory → Nat → Word → Memory
  | [], k, v => [(k, v)]
  | (a, x) :: m, k, v => if k < a then (k, v) :: (a, x) :: m else (a, x) :: Memory.insert m k v

/-- The store after a word is written: every other word is as before, and the form stays canonical. -/
def Memory.write (m : Memory) (k : Nat) (v : Word) : Memory :=
  if v = Config.unlistedWord then m.erase k else (m.erase k).insert k v

/-- Write the words of a list at consecutive addresses. -/
def Memory.writeAll (m : Memory) : Nat → List Word → Memory
  | _, [] => m
  | k, w :: ws => Memory.writeAll (m.write k w) (k + 1) ws

/-- The addresses of a list of entries rise strictly and lie below `size`, from `lo` on. -/
def Memory.risingFrom (size : Nat) : Nat → Memory → Bool
  | _, [] => true
  | lo, (a, _) :: m => decide (lo ≤ a) && decide (a < size) && Memory.risingFrom size (a + 1) m

/-- The canonical form of a store of `size` words: addresses strictly rising and below `size`, no entry equal to what an
unlisted address reads as. -/
def Memory.wf (size : Nat) (m : Memory) : Bool :=
  m.risingFrom size 0 && m.all (fun e => e.2 != Config.unlistedWord)

/-! ### The data address map (20_memory.md) -/

/-- Where a data address leads (table R52). -/
inductive Region where
  /-- addresses 0 to 16383: RAM, with the 14-bit address passed on -/
  | ram (a : BitVec 14)
  /-- addresses 16384 to 24575: the display, with the 13-bit address passed on -/
  | screen (a : BitVec 13)
  /-- address 24576: the keyboard -/
  | keyboard
  /-- addresses 24577 to 32767: not assigned (R53) -/
  | unassigned
deriving DecidableEq, Repr

/-- The data address map: bit 14 selects RAM or device space, bit 13 display or keyboard, and the keyboard is a single
address (table R52, conflict C3). -/
def region (addr : Addr) : Region :=
  if addr.getLsbD 14 then
    if addr.getLsbD 13 then
      if addr.toNat = Config.keyboardAddr then .keyboard else .unassigned
    else .screen (addr.extractLsb' 0 13)
  else .ram (addr.extractLsb' 0 14)

/-- `MemRead(addr, 1)` in the coming step (R61).  It changes no state. -/
def memRead (s : State) (addr : Addr) : Word :=
  match region addr with
  | .ram a => s.ram.read a.toNat
  | .screen a => s.screen.read a.toNat
  | .keyboard => s.keyboard
  | .unassigned => Config.highRead addr s.t

/-- `MemWrite(addr, 1, v)` (R62): a write at 24576 or above changes nothing (R53, R59). -/
def memWrite (s : State) (addr : Addr) (v : Word) : State :=
  match region addr with
  | .ram a => { s with ram := s.ram.write a.toNat v }
  | .screen a => { s with screen := s.screen.write a.toNat v }
  | .keyboard => s
  | .unassigned => s

/-- The write request of a step: `(outM, writeM, addressM)` reaches the data memory in every step, and writes a word iff
`writeM` is high (R63, R253). -/
def memRequest (s : State) (writeM : Signal) (addr : Addr) (outM : Word) : State :=
  if writeM then memWrite s addr outM else s

/-- `RomRead(addr)` (R64). -/
def romRead (s : State) (addr : Addr) : Word := s.rom.read addr.toNat

/-- The instruction word of the coming step: the one at the carried fetch address (R251). -/
def fetchWord (s : State) : Word := romRead s s.pc

/-! ### Inputs -/

/-- `RESET(t)` of the coming step: low when the host gives no value for it (R433, decision D15, log entry 8). -/
def resetNow (s : State) : Signal := s.resetIn.headD false

/-- The inputs of the next step take their places: the step number, the `reset` input, and the word the host has put on
the keyboard (R12, R58; log entries 8, 9 and 11). -/
def nextInputs (s : State) : State :=
  { s with
    resetIn := s.resetIn.tail
    keyboard := s.keyIn.headD s.keyboard
    keyIn := s.keyIn.tail
    t := s.t + 1 }

/-! ### The step (45_computer_step.md R260, R262) -/

/-- A 16-bit register truncated to the 15 bits of an address port (R22, R26, R214). -/
def low15 (w : Word) : Addr := w.setWidth 15

/-- The next value of the program counter block, priority reset > load > increment > hold (42_clock_and_storage.md table
R186). -/
def pcNext (pc inWord : Word) (load inc reset : Signal) : Word :=
  choose (choose (choose pc (pc + 1#16) inc) inWord load) 0#16 reset

/-- The program counter after an instruction: `load` is `jp` and `inc` its complement, `in` the address register before
the edge (R212). -/
def pcAfter (s : State) (jp : Signal) : Word := pcNext s.PC s.A jp (!jp) (resetNow s)

/-- The edge of the CPU Clock: `A`, `D` and `PC` take their new values together, then `addressM` and `pc` are sampled
(R213, R214). -/
def cpuEdge (s : State) (a d pc : Word) : State :=
  { s with A := a, D := d, PC := pc, cpuClock := s.cpuClock + 1, addressM := low15 a, pc := low15 pc }

/-- The edge of the external Clock (R256). -/
def extEdge (s : State) : State := { s with extClock := s.extClock + 1 }

/-- The refresh of `inM`: the data memory is read at the address just sampled (R254). -/
def refresh (s : State) : State := { s with inM := memRead s s.addressM }

/-- Everything of a step after the CPU has computed, in the order of R260: the CPU edge with the new `A`, `D` and `PC`, the
write request at the new `addressM`, the external edge, the refresh read, and the inputs of the next step. -/
def finishStep (s : State) (a d pc : Word) (writeM : Signal) (outM : Word) : State :=
  let s1 := cpuEdge s a d pc
  let s2 := memRequest s1 writeM s1.addressM outM
  nextInputs (refresh (extEdge s2))

/-- The load-address instruction (R215): `A` takes the literal, `D` and memory stay, the program counter goes on (R212). -/
def loadAddress (value : BitVec 15) (s : State) : Outcome State Fault Refusal :=
  .next (finishStep s (literal value) s.D (pcAfter s false) false 0#16)

/-- The ALU's outputs in a compute instruction (R216): `x` is `D`, `y` is `A` or `inM`. -/
def computed (src : SrcY) (c : BitVec 6) (s : State) : AluOut := aluOf c (operandX s) (operandY src s)

/-- The compute instruction (R216): `out` goes to the destinations selected, the jump tests `out` and goes to the old `A`
(R211), the write request goes to the new `A` (R208; decision D24, log entry 17). -/
def compute (src : SrcY) (c : BitVec 6) (dest : Dest) (jump : Jump) (s : State) : Outcome State Fault Refusal :=
  let r := computed src c s
  .next (finishStep s (register dest.a r.out s.A) (register dest.d r.out s.D) (pcAfter s (Jump.taken jump r)) dest.m r.out)

/-! ### The ports -/

/-- The outputs of the CPU in one cycle (R200), which are also the outputs of the block in one step (R258). -/
structure CpuOut where
  /-- the word to write to memory -/
  outM : Word
  /-- the write request -/
  writeM : Signal
  /-- the data address, sampled after the edge -/
  addressM : Addr
  /-- the next fetch address, sampled after the edge -/
  pc : Addr
deriving DecidableEq, Repr

/-- The outputs of a step that runs an instruction word, read off the word's bits (R201, R217, R262).  The ALU computes in
every cycle, also for a load-address instruction, whose `outM` is never written (R97, R204). -/
def ports (w : Word) (s : State) : CpuOut :=
  let i := w.getLsbD 15
  let r := computed (.ofCode (w.getLsbD 12)) (w.extractLsb' 6 6) s
  let jp := jumpPredicate r.zr r.ng (w.getLsbD 2) (w.getLsbD 1) (w.getLsbD 0)
  { outM := r.out
    writeM := i && w.getLsbD 3
    addressM := low15 (if i then register (w.getLsbD 5) r.out s.A else w)
    pc := low15 (pcAfter s (i && jp)) }

end Sys2Proof.Machine
end

