-- ==== Sys2Proof/Machine/ComputeA.lean ====
section
/-! DEFINITION. The 64 compute instructions with `a` = 0: the second operand is the address register `A` (43_cpu_instructions.md R216,
44_compute_functions.md R300 to R363).  Each is the compute instruction with its own value of `c`, written
`zx nx zy ny f no`. -/

namespace Sys2Proof.Machine

open Host (Outcome)

/-- `D&A`, R300: out = D & A. -/
def execDAndA (dest : Dest) (jump : Jump) (s : State) : Outcome State Fault Refusal :=
  compute .regA 0b000000#6 dest jump s

/-- `C.0000001`, R301: out = ~(D & A). -/
def execC0000001 (dest : Dest) (jump : Jump) (s : State) : Outcome State Fault Refusal :=
  compute .regA 0b000001#6 dest jump s

/-- `D+A`, R302: out = D + A. -/
def execDPlusA (dest : Dest) (jump : Jump) (s : State) : Outcome State Fault Refusal :=
  compute .regA 0b000010#6 dest jump s

/-- `C.0000011`, R303: out = -D - A - 1. -/
def execC0000011 (dest : Dest) (jump : Jump) (s : State) : Outcome State Fault Refusal :=
  compute .regA 0b000011#6 dest jump s

/-- `C.0000100`, R304: out = D & ~A. -/
def execC0000100 (dest : Dest) (jump : Jump) (s : State) : Outcome State Fault Refusal :=
  compute .regA 0b000100#6 dest jump s

/-- `C.0000101`, R305: out = ~D | A. -/
def execC0000101 (dest : Dest) (jump : Jump) (s : State) : Outcome State Fault Refusal :=
  compute .regA 0b000101#6 dest jump s

/-- `C.0000110`, R306: out = D - A - 1. -/
def execC0000110 (dest : Dest) (jump : Jump) (s : State) : Outcome State Fault Refusal :=
  compute .regA 0b000110#6 dest jump s

/-- `A-D`, R307: out = A - D. -/
def execAMinusD (dest : Dest) (jump : Jump) (s : State) : Outcome State Fault Refusal :=
  compute .regA 0b000111#6 dest jump s

/-- `C.0001000`, R308: out = 0. -/
def execC0001000 (dest : Dest) (jump : Jump) (s : State) : Outcome State Fault Refusal :=
  compute .regA 0b001000#6 dest jump s

/-- `C.0001001`, R309: out = -1. -/
def execC0001001 (dest : Dest) (jump : Jump) (s : State) : Outcome State Fault Refusal :=
  compute .regA 0b001001#6 dest jump s

/-- `C.0001010`, R310: out = D. -/
def execC0001010 (dest : Dest) (jump : Jump) (s : State) : Outcome State Fault Refusal :=
  compute .regA 0b001010#6 dest jump s

/-- `C.0001011`, R311: out = ~D. -/
def execC0001011 (dest : Dest) (jump : Jump) (s : State) : Outcome State Fault Refusal :=
  compute .regA 0b001011#6 dest jump s

/-- `D`, R312: out = D. -/
def execCompD (dest : Dest) (jump : Jump) (s : State) : Outcome State Fault Refusal :=
  compute .regA 0b001100#6 dest jump s

/-- `!D`, R313: out = ~D. -/
def execNotD (dest : Dest) (jump : Jump) (s : State) : Outcome State Fault Refusal :=
  compute .regA 0b001101#6 dest jump s

/-- `D-1`, R314: out = D - 1. -/
def execDMinus1 (dest : Dest) (jump : Jump) (s : State) : Outcome State Fault Refusal :=
  compute .regA 0b001110#6 dest jump s

/-- `-D`, R315: out = -D. -/
def execNegD (dest : Dest) (jump : Jump) (s : State) : Outcome State Fault Refusal :=
  compute .regA 0b001111#6 dest jump s

/-- `C.0010000`, R316: out = ~D & A. -/
def execC0010000 (dest : Dest) (jump : Jump) (s : State) : Outcome State Fault Refusal :=
  compute .regA 0b010000#6 dest jump s

/-- `C.0010001`, R317: out = D | ~A. -/
def execC0010001 (dest : Dest) (jump : Jump) (s : State) : Outcome State Fault Refusal :=
  compute .regA 0b010001#6 dest jump s

/-- `C.0010010`, R318: out = A - D - 1. -/
def execC0010010 (dest : Dest) (jump : Jump) (s : State) : Outcome State Fault Refusal :=
  compute .regA 0b010010#6 dest jump s

/-- `D-A`, R319: out = D - A. -/
def execDMinusA (dest : Dest) (jump : Jump) (s : State) : Outcome State Fault Refusal :=
  compute .regA 0b010011#6 dest jump s

/-- `C.0010100`, R320: out = ~(D | A). -/
def execC0010100 (dest : Dest) (jump : Jump) (s : State) : Outcome State Fault Refusal :=
  compute .regA 0b010100#6 dest jump s

/-- `D|A`, R321: out = D | A. -/
def execDOrA (dest : Dest) (jump : Jump) (s : State) : Outcome State Fault Refusal :=
  compute .regA 0b010101#6 dest jump s

/-- `C.0010110`, R322: out = -D - A - 2. -/
def execC0010110 (dest : Dest) (jump : Jump) (s : State) : Outcome State Fault Refusal :=
  compute .regA 0b010110#6 dest jump s

/-- `C.0010111`, R323: out = D + A + 1. -/
def execC0010111 (dest : Dest) (jump : Jump) (s : State) : Outcome State Fault Refusal :=
  compute .regA 0b010111#6 dest jump s

/-- `C.0011000`, R324: out = 0. -/
def execC0011000 (dest : Dest) (jump : Jump) (s : State) : Outcome State Fault Refusal :=
  compute .regA 0b011000#6 dest jump s

/-- `C.0011001`, R325: out = -1. -/
def execC0011001 (dest : Dest) (jump : Jump) (s : State) : Outcome State Fault Refusal :=
  compute .regA 0b011001#6 dest jump s

/-- `C.0011010`, R326: out = ~D. -/
def execC0011010 (dest : Dest) (jump : Jump) (s : State) : Outcome State Fault Refusal :=
  compute .regA 0b011010#6 dest jump s

/-- `C.0011011`, R327: out = D. -/
def execC0011011 (dest : Dest) (jump : Jump) (s : State) : Outcome State Fault Refusal :=
  compute .regA 0b011011#6 dest jump s

/-- `C.0011100`, R328: out = ~D. -/
def execC0011100 (dest : Dest) (jump : Jump) (s : State) : Outcome State Fault Refusal :=
  compute .regA 0b011100#6 dest jump s

/-- `C.0011101`, R329: out = D. -/
def execC0011101 (dest : Dest) (jump : Jump) (s : State) : Outcome State Fault Refusal :=
  compute .regA 0b011101#6 dest jump s

/-- `C.0011110`, R330: out = -D - 2. -/
def execC0011110 (dest : Dest) (jump : Jump) (s : State) : Outcome State Fault Refusal :=
  compute .regA 0b011110#6 dest jump s

/-- `D+1`, R331: out = D + 1. -/
def execDPlus1 (dest : Dest) (jump : Jump) (s : State) : Outcome State Fault Refusal :=
  compute .regA 0b011111#6 dest jump s

/-- `C.0100000`, R332: out = 0. -/
def execC0100000 (dest : Dest) (jump : Jump) (s : State) : Outcome State Fault Refusal :=
  compute .regA 0b100000#6 dest jump s

/-- `C.0100001`, R333: out = -1. -/
def execC0100001 (dest : Dest) (jump : Jump) (s : State) : Outcome State Fault Refusal :=
  compute .regA 0b100001#6 dest jump s

/-- `C.0100010`, R334: out = A. -/
def execC0100010 (dest : Dest) (jump : Jump) (s : State) : Outcome State Fault Refusal :=
  compute .regA 0b100010#6 dest jump s

/-- `C.0100011`, R335: out = ~A. -/
def execC0100011 (dest : Dest) (jump : Jump) (s : State) : Outcome State Fault Refusal :=
  compute .regA 0b100011#6 dest jump s

/-- `C.0100100`, R336: out = 0. -/
def execC0100100 (dest : Dest) (jump : Jump) (s : State) : Outcome State Fault Refusal :=
  compute .regA 0b100100#6 dest jump s

/-- `C.0100101`, R337: out = -1. -/
def execC0100101 (dest : Dest) (jump : Jump) (s : State) : Outcome State Fault Refusal :=
  compute .regA 0b100101#6 dest jump s

/-- `C.0100110`, R338: out = ~A. -/
def execC0100110 (dest : Dest) (jump : Jump) (s : State) : Outcome State Fault Refusal :=
  compute .regA 0b100110#6 dest jump s

/-- `C.0100111`, R339: out = A. -/
def execC0100111 (dest : Dest) (jump : Jump) (s : State) : Outcome State Fault Refusal :=
  compute .regA 0b100111#6 dest jump s

/-- `C.0101000`, R340: out = 0. -/
def execC0101000 (dest : Dest) (jump : Jump) (s : State) : Outcome State Fault Refusal :=
  compute .regA 0b101000#6 dest jump s

/-- `C.0101001`, R341: out = -1. -/
def execC0101001 (dest : Dest) (jump : Jump) (s : State) : Outcome State Fault Refusal :=
  compute .regA 0b101001#6 dest jump s

/-- `0`, R342: out = 0. -/
def execZero (dest : Dest) (jump : Jump) (s : State) : Outcome State Fault Refusal :=
  compute .regA 0b101010#6 dest jump s

/-- `C.0101011`, R343: out = -1. -/
def execC0101011 (dest : Dest) (jump : Jump) (s : State) : Outcome State Fault Refusal :=
  compute .regA 0b101011#6 dest jump s

/-- `C.0101100`, R344: out = 0. -/
def execC0101100 (dest : Dest) (jump : Jump) (s : State) : Outcome State Fault Refusal :=
  compute .regA 0b101100#6 dest jump s

/-- `C.0101101`, R345: out = -1. -/
def execC0101101 (dest : Dest) (jump : Jump) (s : State) : Outcome State Fault Refusal :=
  compute .regA 0b101101#6 dest jump s

/-- `C.0101110`, R346: out = -1. -/
def execC0101110 (dest : Dest) (jump : Jump) (s : State) : Outcome State Fault Refusal :=
  compute .regA 0b101110#6 dest jump s

/-- `C.0101111`, R347: out = 0. -/
def execC0101111 (dest : Dest) (jump : Jump) (s : State) : Outcome State Fault Refusal :=
  compute .regA 0b101111#6 dest jump s

/-- `A`, R348: out = A. -/
def execCompA (dest : Dest) (jump : Jump) (s : State) : Outcome State Fault Refusal :=
  compute .regA 0b110000#6 dest jump s

/-- `!A`, R349: out = ~A. -/
def execNotA (dest : Dest) (jump : Jump) (s : State) : Outcome State Fault Refusal :=
  compute .regA 0b110001#6 dest jump s

/-- `A-1`, R350: out = A - 1. -/
def execAMinus1 (dest : Dest) (jump : Jump) (s : State) : Outcome State Fault Refusal :=
  compute .regA 0b110010#6 dest jump s

/-- `-A`, R351: out = -A. -/
def execNegA (dest : Dest) (jump : Jump) (s : State) : Outcome State Fault Refusal :=
  compute .regA 0b110011#6 dest jump s

/-- `C.0110100`, R352: out = ~A. -/
def execC0110100 (dest : Dest) (jump : Jump) (s : State) : Outcome State Fault Refusal :=
  compute .regA 0b110100#6 dest jump s

/-- `C.0110101`, R353: out = A. -/
def execC0110101 (dest : Dest) (jump : Jump) (s : State) : Outcome State Fault Refusal :=
  compute .regA 0b110101#6 dest jump s

/-- `C.0110110`, R354: out = -A - 2. -/
def execC0110110 (dest : Dest) (jump : Jump) (s : State) : Outcome State Fault Refusal :=
  compute .regA 0b110110#6 dest jump s

/-- `A+1`, R355: out = A + 1. -/
def execAPlus1 (dest : Dest) (jump : Jump) (s : State) : Outcome State Fault Refusal :=
  compute .regA 0b110111#6 dest jump s

/-- `C.0111000`, R356: out = 0. -/
def execC0111000 (dest : Dest) (jump : Jump) (s : State) : Outcome State Fault Refusal :=
  compute .regA 0b111000#6 dest jump s

/-- `C.0111001`, R357: out = -1. -/
def execC0111001 (dest : Dest) (jump : Jump) (s : State) : Outcome State Fault Refusal :=
  compute .regA 0b111001#6 dest jump s

/-- `-1`, R358: out = -1. -/
def execMinus1 (dest : Dest) (jump : Jump) (s : State) : Outcome State Fault Refusal :=
  compute .regA 0b111010#6 dest jump s

/-- `C.0111011`, R359: out = 0. -/
def execC0111011 (dest : Dest) (jump : Jump) (s : State) : Outcome State Fault Refusal :=
  compute .regA 0b111011#6 dest jump s

/-- `C.0111100`, R360: out = -1. -/
def execC0111100 (dest : Dest) (jump : Jump) (s : State) : Outcome State Fault Refusal :=
  compute .regA 0b111100#6 dest jump s

/-- `C.0111101`, R361: out = 0. -/
def execC0111101 (dest : Dest) (jump : Jump) (s : State) : Outcome State Fault Refusal :=
  compute .regA 0b111101#6 dest jump s

/-- `C.0111110`, R362: out = -2. -/
def execC0111110 (dest : Dest) (jump : Jump) (s : State) : Outcome State Fault Refusal :=
  compute .regA 0b111110#6 dest jump s

/-- `1`, R363: out = 1. -/
def execOne (dest : Dest) (jump : Jump) (s : State) : Outcome State Fault Refusal :=
  compute .regA 0b111111#6 dest jump s

end Sys2Proof.Machine
end

