-- ==== Sys2Proof/Machine/ComputeM.lean ====
section
/-! DEFINITION. The 64 compute instructions with `a` = 1: the second operand is the carried memory word `inM`, written `M` (43_cpu_instructions.md R216,
44_compute_functions.md R300 to R363).  Each is the compute instruction with its own value of `c`, written
`zx nx zy ny f no`. -/

namespace Sys2Proof.Machine

open Host (Outcome)

/-- `D&M`, R300: out = D & M. -/
def execDAndM (dest : Dest) (jump : Jump) (s : State) : Outcome State Fault Refusal :=
  compute .inM 0b000000#6 dest jump s

/-- `C.1000001`, R301: out = ~(D & M). -/
def execC1000001 (dest : Dest) (jump : Jump) (s : State) : Outcome State Fault Refusal :=
  compute .inM 0b000001#6 dest jump s

/-- `D+M`, R302: out = D + M. -/
def execDPlusM (dest : Dest) (jump : Jump) (s : State) : Outcome State Fault Refusal :=
  compute .inM 0b000010#6 dest jump s

/-- `C.1000011`, R303: out = -D - M - 1. -/
def execC1000011 (dest : Dest) (jump : Jump) (s : State) : Outcome State Fault Refusal :=
  compute .inM 0b000011#6 dest jump s

/-- `C.1000100`, R304: out = D & ~M. -/
def execC1000100 (dest : Dest) (jump : Jump) (s : State) : Outcome State Fault Refusal :=
  compute .inM 0b000100#6 dest jump s

/-- `C.1000101`, R305: out = ~D | M. -/
def execC1000101 (dest : Dest) (jump : Jump) (s : State) : Outcome State Fault Refusal :=
  compute .inM 0b000101#6 dest jump s

/-- `C.1000110`, R306: out = D - M - 1. -/
def execC1000110 (dest : Dest) (jump : Jump) (s : State) : Outcome State Fault Refusal :=
  compute .inM 0b000110#6 dest jump s

/-- `M-D`, R307: out = M - D. -/
def execMMinusD (dest : Dest) (jump : Jump) (s : State) : Outcome State Fault Refusal :=
  compute .inM 0b000111#6 dest jump s

/-- `C.1001000`, R308: out = 0. -/
def execC1001000 (dest : Dest) (jump : Jump) (s : State) : Outcome State Fault Refusal :=
  compute .inM 0b001000#6 dest jump s

/-- `C.1001001`, R309: out = -1. -/
def execC1001001 (dest : Dest) (jump : Jump) (s : State) : Outcome State Fault Refusal :=
  compute .inM 0b001001#6 dest jump s

/-- `C.1001010`, R310: out = D. -/
def execC1001010 (dest : Dest) (jump : Jump) (s : State) : Outcome State Fault Refusal :=
  compute .inM 0b001010#6 dest jump s

/-- `C.1001011`, R311: out = ~D. -/
def execC1001011 (dest : Dest) (jump : Jump) (s : State) : Outcome State Fault Refusal :=
  compute .inM 0b001011#6 dest jump s

/-- `C.1001100`, R312: out = D. -/
def execC1001100 (dest : Dest) (jump : Jump) (s : State) : Outcome State Fault Refusal :=
  compute .inM 0b001100#6 dest jump s

/-- `C.1001101`, R313: out = ~D. -/
def execC1001101 (dest : Dest) (jump : Jump) (s : State) : Outcome State Fault Refusal :=
  compute .inM 0b001101#6 dest jump s

/-- `C.1001110`, R314: out = D - 1. -/
def execC1001110 (dest : Dest) (jump : Jump) (s : State) : Outcome State Fault Refusal :=
  compute .inM 0b001110#6 dest jump s

/-- `C.1001111`, R315: out = -D. -/
def execC1001111 (dest : Dest) (jump : Jump) (s : State) : Outcome State Fault Refusal :=
  compute .inM 0b001111#6 dest jump s

/-- `C.1010000`, R316: out = ~D & M. -/
def execC1010000 (dest : Dest) (jump : Jump) (s : State) : Outcome State Fault Refusal :=
  compute .inM 0b010000#6 dest jump s

/-- `C.1010001`, R317: out = D | ~M. -/
def execC1010001 (dest : Dest) (jump : Jump) (s : State) : Outcome State Fault Refusal :=
  compute .inM 0b010001#6 dest jump s

/-- `C.1010010`, R318: out = M - D - 1. -/
def execC1010010 (dest : Dest) (jump : Jump) (s : State) : Outcome State Fault Refusal :=
  compute .inM 0b010010#6 dest jump s

/-- `D-M`, R319: out = D - M. -/
def execDMinusM (dest : Dest) (jump : Jump) (s : State) : Outcome State Fault Refusal :=
  compute .inM 0b010011#6 dest jump s

/-- `C.1010100`, R320: out = ~(D | M). -/
def execC1010100 (dest : Dest) (jump : Jump) (s : State) : Outcome State Fault Refusal :=
  compute .inM 0b010100#6 dest jump s

/-- `D|M`, R321: out = D | M. -/
def execDOrM (dest : Dest) (jump : Jump) (s : State) : Outcome State Fault Refusal :=
  compute .inM 0b010101#6 dest jump s

/-- `C.1010110`, R322: out = -D - M - 2. -/
def execC1010110 (dest : Dest) (jump : Jump) (s : State) : Outcome State Fault Refusal :=
  compute .inM 0b010110#6 dest jump s

/-- `C.1010111`, R323: out = D + M + 1. -/
def execC1010111 (dest : Dest) (jump : Jump) (s : State) : Outcome State Fault Refusal :=
  compute .inM 0b010111#6 dest jump s

/-- `C.1011000`, R324: out = 0. -/
def execC1011000 (dest : Dest) (jump : Jump) (s : State) : Outcome State Fault Refusal :=
  compute .inM 0b011000#6 dest jump s

/-- `C.1011001`, R325: out = -1. -/
def execC1011001 (dest : Dest) (jump : Jump) (s : State) : Outcome State Fault Refusal :=
  compute .inM 0b011001#6 dest jump s

/-- `C.1011010`, R326: out = ~D. -/
def execC1011010 (dest : Dest) (jump : Jump) (s : State) : Outcome State Fault Refusal :=
  compute .inM 0b011010#6 dest jump s

/-- `C.1011011`, R327: out = D. -/
def execC1011011 (dest : Dest) (jump : Jump) (s : State) : Outcome State Fault Refusal :=
  compute .inM 0b011011#6 dest jump s

/-- `C.1011100`, R328: out = ~D. -/
def execC1011100 (dest : Dest) (jump : Jump) (s : State) : Outcome State Fault Refusal :=
  compute .inM 0b011100#6 dest jump s

/-- `C.1011101`, R329: out = D. -/
def execC1011101 (dest : Dest) (jump : Jump) (s : State) : Outcome State Fault Refusal :=
  compute .inM 0b011101#6 dest jump s

/-- `C.1011110`, R330: out = -D - 2. -/
def execC1011110 (dest : Dest) (jump : Jump) (s : State) : Outcome State Fault Refusal :=
  compute .inM 0b011110#6 dest jump s

/-- `C.1011111`, R331: out = D + 1. -/
def execC1011111 (dest : Dest) (jump : Jump) (s : State) : Outcome State Fault Refusal :=
  compute .inM 0b011111#6 dest jump s

/-- `C.1100000`, R332: out = 0. -/
def execC1100000 (dest : Dest) (jump : Jump) (s : State) : Outcome State Fault Refusal :=
  compute .inM 0b100000#6 dest jump s

/-- `C.1100001`, R333: out = -1. -/
def execC1100001 (dest : Dest) (jump : Jump) (s : State) : Outcome State Fault Refusal :=
  compute .inM 0b100001#6 dest jump s

/-- `C.1100010`, R334: out = M. -/
def execC1100010 (dest : Dest) (jump : Jump) (s : State) : Outcome State Fault Refusal :=
  compute .inM 0b100010#6 dest jump s

/-- `C.1100011`, R335: out = ~M. -/
def execC1100011 (dest : Dest) (jump : Jump) (s : State) : Outcome State Fault Refusal :=
  compute .inM 0b100011#6 dest jump s

/-- `C.1100100`, R336: out = 0. -/
def execC1100100 (dest : Dest) (jump : Jump) (s : State) : Outcome State Fault Refusal :=
  compute .inM 0b100100#6 dest jump s

/-- `C.1100101`, R337: out = -1. -/
def execC1100101 (dest : Dest) (jump : Jump) (s : State) : Outcome State Fault Refusal :=
  compute .inM 0b100101#6 dest jump s

/-- `C.1100110`, R338: out = ~M. -/
def execC1100110 (dest : Dest) (jump : Jump) (s : State) : Outcome State Fault Refusal :=
  compute .inM 0b100110#6 dest jump s

/-- `C.1100111`, R339: out = M. -/
def execC1100111 (dest : Dest) (jump : Jump) (s : State) : Outcome State Fault Refusal :=
  compute .inM 0b100111#6 dest jump s

/-- `C.1101000`, R340: out = 0. -/
def execC1101000 (dest : Dest) (jump : Jump) (s : State) : Outcome State Fault Refusal :=
  compute .inM 0b101000#6 dest jump s

/-- `C.1101001`, R341: out = -1. -/
def execC1101001 (dest : Dest) (jump : Jump) (s : State) : Outcome State Fault Refusal :=
  compute .inM 0b101001#6 dest jump s

/-- `C.1101010`, R342: out = 0. -/
def execC1101010 (dest : Dest) (jump : Jump) (s : State) : Outcome State Fault Refusal :=
  compute .inM 0b101010#6 dest jump s

/-- `C.1101011`, R343: out = -1. -/
def execC1101011 (dest : Dest) (jump : Jump) (s : State) : Outcome State Fault Refusal :=
  compute .inM 0b101011#6 dest jump s

/-- `C.1101100`, R344: out = 0. -/
def execC1101100 (dest : Dest) (jump : Jump) (s : State) : Outcome State Fault Refusal :=
  compute .inM 0b101100#6 dest jump s

/-- `C.1101101`, R345: out = -1. -/
def execC1101101 (dest : Dest) (jump : Jump) (s : State) : Outcome State Fault Refusal :=
  compute .inM 0b101101#6 dest jump s

/-- `C.1101110`, R346: out = -1. -/
def execC1101110 (dest : Dest) (jump : Jump) (s : State) : Outcome State Fault Refusal :=
  compute .inM 0b101110#6 dest jump s

/-- `C.1101111`, R347: out = 0. -/
def execC1101111 (dest : Dest) (jump : Jump) (s : State) : Outcome State Fault Refusal :=
  compute .inM 0b101111#6 dest jump s

/-- `M`, R348: out = M. -/
def execCompM (dest : Dest) (jump : Jump) (s : State) : Outcome State Fault Refusal :=
  compute .inM 0b110000#6 dest jump s

/-- `!M`, R349: out = ~M. -/
def execNotM (dest : Dest) (jump : Jump) (s : State) : Outcome State Fault Refusal :=
  compute .inM 0b110001#6 dest jump s

/-- `M-1`, R350: out = M - 1. -/
def execMMinus1 (dest : Dest) (jump : Jump) (s : State) : Outcome State Fault Refusal :=
  compute .inM 0b110010#6 dest jump s

/-- `-M`, R351: out = -M. -/
def execNegM (dest : Dest) (jump : Jump) (s : State) : Outcome State Fault Refusal :=
  compute .inM 0b110011#6 dest jump s

/-- `C.1110100`, R352: out = ~M. -/
def execC1110100 (dest : Dest) (jump : Jump) (s : State) : Outcome State Fault Refusal :=
  compute .inM 0b110100#6 dest jump s

/-- `C.1110101`, R353: out = M. -/
def execC1110101 (dest : Dest) (jump : Jump) (s : State) : Outcome State Fault Refusal :=
  compute .inM 0b110101#6 dest jump s

/-- `C.1110110`, R354: out = -M - 2. -/
def execC1110110 (dest : Dest) (jump : Jump) (s : State) : Outcome State Fault Refusal :=
  compute .inM 0b110110#6 dest jump s

/-- `M+1`, R355: out = M + 1. -/
def execMPlus1 (dest : Dest) (jump : Jump) (s : State) : Outcome State Fault Refusal :=
  compute .inM 0b110111#6 dest jump s

/-- `C.1111000`, R356: out = 0. -/
def execC1111000 (dest : Dest) (jump : Jump) (s : State) : Outcome State Fault Refusal :=
  compute .inM 0b111000#6 dest jump s

/-- `C.1111001`, R357: out = -1. -/
def execC1111001 (dest : Dest) (jump : Jump) (s : State) : Outcome State Fault Refusal :=
  compute .inM 0b111001#6 dest jump s

/-- `C.1111010`, R358: out = -1. -/
def execC1111010 (dest : Dest) (jump : Jump) (s : State) : Outcome State Fault Refusal :=
  compute .inM 0b111010#6 dest jump s

/-- `C.1111011`, R359: out = 0. -/
def execC1111011 (dest : Dest) (jump : Jump) (s : State) : Outcome State Fault Refusal :=
  compute .inM 0b111011#6 dest jump s

/-- `C.1111100`, R360: out = -1. -/
def execC1111100 (dest : Dest) (jump : Jump) (s : State) : Outcome State Fault Refusal :=
  compute .inM 0b111100#6 dest jump s

/-- `C.1111101`, R361: out = 0. -/
def execC1111101 (dest : Dest) (jump : Jump) (s : State) : Outcome State Fault Refusal :=
  compute .inM 0b111101#6 dest jump s

/-- `C.1111110`, R362: out = -2. -/
def execC1111110 (dest : Dest) (jump : Jump) (s : State) : Outcome State Fault Refusal :=
  compute .inM 0b111110#6 dest jump s

/-- `C.1111111`, R363: out = 1. -/
def execC1111111 (dest : Dest) (jump : Jump) (s : State) : Outcome State Fault Refusal :=
  compute .inM 0b111111#6 dest jump s

end Sys2Proof.Machine
end

