-- ==== Sys2Proof/Machine/LoadAddress.lean ====
section
/-! DEFINITION. The load-address instruction (43_cpu_instructions.md R215). -/

namespace Sys2Proof.Machine

open Host (Outcome)

/-- `@value`, R215: `A` takes the zero-extended literal. -/
def execLoadAddr (value : BitVec 15) (s : State) : Outcome State Fault Refusal := loadAddress value s

end Sys2Proof.Machine
end

