-- ==== Sys2Proof/Machine/Dispatch.lean ====
section
/-! DEFINITION. One arm per constructor of Instr: what executing it does. -/

namespace Sys2Proof.Machine

def exec (i : Instr) (s : State) : Host.Outcome State Fault Refusal :=
  match i with
  | .loadAddr value => Sys2Proof.Machine.execLoadAddr value s
  | .dAndA dest jump => Sys2Proof.Machine.execDAndA dest jump s
  | .c0000001 dest jump => Sys2Proof.Machine.execC0000001 dest jump s
  | .dPlusA dest jump => Sys2Proof.Machine.execDPlusA dest jump s
  | .c0000011 dest jump => Sys2Proof.Machine.execC0000011 dest jump s
  | .c0000100 dest jump => Sys2Proof.Machine.execC0000100 dest jump s
  | .c0000101 dest jump => Sys2Proof.Machine.execC0000101 dest jump s
  | .c0000110 dest jump => Sys2Proof.Machine.execC0000110 dest jump s
  | .aMinusD dest jump => Sys2Proof.Machine.execAMinusD dest jump s
  | .c0001000 dest jump => Sys2Proof.Machine.execC0001000 dest jump s
  | .c0001001 dest jump => Sys2Proof.Machine.execC0001001 dest jump s
  | .c0001010 dest jump => Sys2Proof.Machine.execC0001010 dest jump s
  | .c0001011 dest jump => Sys2Proof.Machine.execC0001011 dest jump s
  | .compD dest jump => Sys2Proof.Machine.execCompD dest jump s
  | .notD dest jump => Sys2Proof.Machine.execNotD dest jump s
  | .dMinus1 dest jump => Sys2Proof.Machine.execDMinus1 dest jump s
  | .negD dest jump => Sys2Proof.Machine.execNegD dest jump s
  | .c0010000 dest jump => Sys2Proof.Machine.execC0010000 dest jump s
  | .c0010001 dest jump => Sys2Proof.Machine.execC0010001 dest jump s
  | .c0010010 dest jump => Sys2Proof.Machine.execC0010010 dest jump s
  | .dMinusA dest jump => Sys2Proof.Machine.execDMinusA dest jump s
  | .c0010100 dest jump => Sys2Proof.Machine.execC0010100 dest jump s
  | .dOrA dest jump => Sys2Proof.Machine.execDOrA dest jump s
  | .c0010110 dest jump => Sys2Proof.Machine.execC0010110 dest jump s
  | .c0010111 dest jump => Sys2Proof.Machine.execC0010111 dest jump s
  | .c0011000 dest jump => Sys2Proof.Machine.execC0011000 dest jump s
  | .c0011001 dest jump => Sys2Proof.Machine.execC0011001 dest jump s
  | .c0011010 dest jump => Sys2Proof.Machine.execC0011010 dest jump s
  | .c0011011 dest jump => Sys2Proof.Machine.execC0011011 dest jump s
  | .c0011100 dest jump => Sys2Proof.Machine.execC0011100 dest jump s
  | .c0011101 dest jump => Sys2Proof.Machine.execC0011101 dest jump s
  | .c0011110 dest jump => Sys2Proof.Machine.execC0011110 dest jump s
  | .dPlus1 dest jump => Sys2Proof.Machine.execDPlus1 dest jump s
  | .c0100000 dest jump => Sys2Proof.Machine.execC0100000 dest jump s
  | .c0100001 dest jump => Sys2Proof.Machine.execC0100001 dest jump s
  | .c0100010 dest jump => Sys2Proof.Machine.execC0100010 dest jump s
  | .c0100011 dest jump => Sys2Proof.Machine.execC0100011 dest jump s
  | .c0100100 dest jump => Sys2Proof.Machine.execC0100100 dest jump s
  | .c0100101 dest jump => Sys2Proof.Machine.execC0100101 dest jump s
  | .c0100110 dest jump => Sys2Proof.Machine.execC0100110 dest jump s
  | .c0100111 dest jump => Sys2Proof.Machine.execC0100111 dest jump s
  | .c0101000 dest jump => Sys2Proof.Machine.execC0101000 dest jump s
  | .c0101001 dest jump => Sys2Proof.Machine.execC0101001 dest jump s
  | .zero dest jump => Sys2Proof.Machine.execZero dest jump s
  | .c0101011 dest jump => Sys2Proof.Machine.execC0101011 dest jump s
  | .c0101100 dest jump => Sys2Proof.Machine.execC0101100 dest jump s
  | .c0101101 dest jump => Sys2Proof.Machine.execC0101101 dest jump s
  | .c0101110 dest jump => Sys2Proof.Machine.execC0101110 dest jump s
  | .c0101111 dest jump => Sys2Proof.Machine.execC0101111 dest jump s
  | .compA dest jump => Sys2Proof.Machine.execCompA dest jump s
  | .notA dest jump => Sys2Proof.Machine.execNotA dest jump s
  | .aMinus1 dest jump => Sys2Proof.Machine.execAMinus1 dest jump s
  | .negA dest jump => Sys2Proof.Machine.execNegA dest jump s
  | .c0110100 dest jump => Sys2Proof.Machine.execC0110100 dest jump s
  | .c0110101 dest jump => Sys2Proof.Machine.execC0110101 dest jump s
  | .c0110110 dest jump => Sys2Proof.Machine.execC0110110 dest jump s
  | .aPlus1 dest jump => Sys2Proof.Machine.execAPlus1 dest jump s
  | .c0111000 dest jump => Sys2Proof.Machine.execC0111000 dest jump s
  | .c0111001 dest jump => Sys2Proof.Machine.execC0111001 dest jump s
  | .minus1 dest jump => Sys2Proof.Machine.execMinus1 dest jump s
  | .c0111011 dest jump => Sys2Proof.Machine.execC0111011 dest jump s
  | .c0111100 dest jump => Sys2Proof.Machine.execC0111100 dest jump s
  | .c0111101 dest jump => Sys2Proof.Machine.execC0111101 dest jump s
  | .c0111110 dest jump => Sys2Proof.Machine.execC0111110 dest jump s
  | .one dest jump => Sys2Proof.Machine.execOne dest jump s
  | .dAndM dest jump => Sys2Proof.Machine.execDAndM dest jump s
  | .c1000001 dest jump => Sys2Proof.Machine.execC1000001 dest jump s
  | .dPlusM dest jump => Sys2Proof.Machine.execDPlusM dest jump s
  | .c1000011 dest jump => Sys2Proof.Machine.execC1000011 dest jump s
  | .c1000100 dest jump => Sys2Proof.Machine.execC1000100 dest jump s
  | .c1000101 dest jump => Sys2Proof.Machine.execC1000101 dest jump s
  | .c1000110 dest jump => Sys2Proof.Machine.execC1000110 dest jump s
  | .mMinusD dest jump => Sys2Proof.Machine.execMMinusD dest jump s
  | .c1001000 dest jump => Sys2Proof.Machine.execC1001000 dest jump s
  | .c1001001 dest jump => Sys2Proof.Machine.execC1001001 dest jump s
  | .c1001010 dest jump => Sys2Proof.Machine.execC1001010 dest jump s
  | .c1001011 dest jump => Sys2Proof.Machine.execC1001011 dest jump s
  | .c1001100 dest jump => Sys2Proof.Machine.execC1001100 dest jump s
  | .c1001101 dest jump => Sys2Proof.Machine.execC1001101 dest jump s
  | .c1001110 dest jump => Sys2Proof.Machine.execC1001110 dest jump s
  | .c1001111 dest jump => Sys2Proof.Machine.execC1001111 dest jump s
  | .c1010000 dest jump => Sys2Proof.Machine.execC1010000 dest jump s
  | .c1010001 dest jump => Sys2Proof.Machine.execC1010001 dest jump s
  | .c1010010 dest jump => Sys2Proof.Machine.execC1010010 dest jump s
  | .dMinusM dest jump => Sys2Proof.Machine.execDMinusM dest jump s
  | .c1010100 dest jump => Sys2Proof.Machine.execC1010100 dest jump s
  | .dOrM dest jump => Sys2Proof.Machine.execDOrM dest jump s
  | .c1010110 dest jump => Sys2Proof.Machine.execC1010110 dest jump s
  | .c1010111 dest jump => Sys2Proof.Machine.execC1010111 dest jump s
  | .c1011000 dest jump => Sys2Proof.Machine.execC1011000 dest jump s
  | .c1011001 dest jump => Sys2Proof.Machine.execC1011001 dest jump s
  | .c1011010 dest jump => Sys2Proof.Machine.execC1011010 dest jump s
  | .c1011011 dest jump => Sys2Proof.Machine.execC1011011 dest jump s
  | .c1011100 dest jump => Sys2Proof.Machine.execC1011100 dest jump s
  | .c1011101 dest jump => Sys2Proof.Machine.execC1011101 dest jump s
  | .c1011110 dest jump => Sys2Proof.Machine.execC1011110 dest jump s
  | .c1011111 dest jump => Sys2Proof.Machine.execC1011111 dest jump s
  | .c1100000 dest jump => Sys2Proof.Machine.execC1100000 dest jump s
  | .c1100001 dest jump => Sys2Proof.Machine.execC1100001 dest jump s
  | .c1100010 dest jump => Sys2Proof.Machine.execC1100010 dest jump s
  | .c1100011 dest jump => Sys2Proof.Machine.execC1100011 dest jump s
  | .c1100100 dest jump => Sys2Proof.Machine.execC1100100 dest jump s
  | .c1100101 dest jump => Sys2Proof.Machine.execC1100101 dest jump s
  | .c1100110 dest jump => Sys2Proof.Machine.execC1100110 dest jump s
  | .c1100111 dest jump => Sys2Proof.Machine.execC1100111 dest jump s
  | .c1101000 dest jump => Sys2Proof.Machine.execC1101000 dest jump s
  | .c1101001 dest jump => Sys2Proof.Machine.execC1101001 dest jump s
  | .c1101010 dest jump => Sys2Proof.Machine.execC1101010 dest jump s
  | .c1101011 dest jump => Sys2Proof.Machine.execC1101011 dest jump s
  | .c1101100 dest jump => Sys2Proof.Machine.execC1101100 dest jump s
  | .c1101101 dest jump => Sys2Proof.Machine.execC1101101 dest jump s
  | .c1101110 dest jump => Sys2Proof.Machine.execC1101110 dest jump s
  | .c1101111 dest jump => Sys2Proof.Machine.execC1101111 dest jump s
  | .compM dest jump => Sys2Proof.Machine.execCompM dest jump s
  | .notM dest jump => Sys2Proof.Machine.execNotM dest jump s
  | .mMinus1 dest jump => Sys2Proof.Machine.execMMinus1 dest jump s
  | .negM dest jump => Sys2Proof.Machine.execNegM dest jump s
  | .c1110100 dest jump => Sys2Proof.Machine.execC1110100 dest jump s
  | .c1110101 dest jump => Sys2Proof.Machine.execC1110101 dest jump s
  | .c1110110 dest jump => Sys2Proof.Machine.execC1110110 dest jump s
  | .mPlus1 dest jump => Sys2Proof.Machine.execMPlus1 dest jump s
  | .c1111000 dest jump => Sys2Proof.Machine.execC1111000 dest jump s
  | .c1111001 dest jump => Sys2Proof.Machine.execC1111001 dest jump s
  | .c1111010 dest jump => Sys2Proof.Machine.execC1111010 dest jump s
  | .c1111011 dest jump => Sys2Proof.Machine.execC1111011 dest jump s
  | .c1111100 dest jump => Sys2Proof.Machine.execC1111100 dest jump s
  | .c1111101 dest jump => Sys2Proof.Machine.execC1111101 dest jump s
  | .c1111110 dest jump => Sys2Proof.Machine.execC1111110 dest jump s
  | .c1111111 dest jump => Sys2Proof.Machine.execC1111111 dest jump s

end Sys2Proof.Machine
end

