-- ==== Sys2Proof/Machine/Step.lean ====
section
/-! DEFINITION. One step of the machine: `step(reset)` of the Computer (45_computer_step.md R260), `reset` read from the
state's input. -/

namespace Sys2Proof.Machine

/-- One step: fetch the word at the carried `pc` (R251) and run the instruction it is; every instruction's meaning is the
whole rest of the step (R252 to R256). -/
def step (s : State) : Host.Outcome State Fault Refusal := exec (decodeWord (fetchWord s)) s

/-- The state with an instruction word in the instruction store where the coming step fetches: the bits from `nbits` on
are 0, and an instruction has 16 bits.  It stands for the load of the store before step 0 (R436); log entry 14. -/
def State.withFetchWord (s : State) (nbits w : Nat) : State :=
  { s with rom := s.rom.write s.pc.toNat (BitVec.ofNat 16 (w % 2 ^ nbits)) }

end Sys2Proof.Machine
end

