-- ==== Sys2Proof/Machine/Gates.lean ====
section
/-! DEFINITION. The signal algebra (40_signal_algebra.md): the primitive `nand` and everything derived from it, by the
document's derivations (R110) and, where it gives none, by the spec's netlists (decision D9) and its order of selectors
(decision D8); log entry 18.  A bundle of `n` wires is a function on `Fin n`, bit positions a function on `Nat`. -/

namespace Sys2Proof.Machine

/-- `nand`, the one primitive operation, by its truth table (R111). -/
def Gate.nand : Signal → Signal → Signal
  | true, true => false
  | true, false => true
  | false, true => true
  | false, false => true

/-- `not(a) = nand(a, a)` (R112). -/
def Gate.not (a : Signal) : Signal := Gate.nand a a

/-- `and(a, b) = not(nand(a, b))` (R113). -/
def Gate.and (a b : Signal) : Signal := Gate.not (Gate.nand a b)

/-- `or(a, b) = nand(not(a), not(b))` (R114). -/
def Gate.or (a b : Signal) : Signal := Gate.nand (Gate.not a) (Gate.not b)

/-- `xor(a, b) = or(and(not(a), b), and(a, not(b)))` (R115). -/
def Gate.xor (a b : Signal) : Signal := Gate.or (Gate.and (Gate.not a) b) (Gate.and a (Gate.not b))

/-- The 2-way select: `a` when `sel` is low, `b` when it is high (R116, netlist of decision D9). -/
def Gate.mux (a b sel : Signal) : Signal := Gate.nand (Gate.nand a (Gate.not sel)) (Gate.nand b sel)

/-- The 2-way split: `inp` to output 0 when `sel` is low, to output 1 when it is high (R117, netlist of decision D9). -/
def Gate.demux (inp sel : Signal) : Signal × Signal := (Gate.and inp (Gate.not sel), Gate.and inp sel)

/-- The number with the first `n` of a row of bits, the first the least significant. -/
def bitsValue (f : Nat → Signal) : Nat → Nat
  | 0 => 0
  | n + 1 => bitsValue f n + (f n).toNat * 2 ^ n

/-- The word with the bits of a row, bit 0 first (R10). -/
def wordOfBits (f : Nat → Signal) : Word := BitVec.ofNat 16 (bitsValue f 16)

/-- `not16` (R118). -/
def Gate.not16 (w : Word) : Word := wordOfBits fun i => Gate.not (w.getLsbD i)

/-- `and16` (R119). -/
def Gate.and16 (v w : Word) : Word := wordOfBits fun i => Gate.and (v.getLsbD i) (w.getLsbD i)

/-- `or16` (R120). -/
def Gate.or16 (v w : Word) : Word := wordOfBits fun i => Gate.or (v.getLsbD i) (w.getLsbD i)

/-- `mux16`, one select signal for all positions (R121). -/
def Gate.mux16 (v w : Word) (sel : Signal) : Word := wordOfBits fun i => Gate.mux (v.getLsbD i) (w.getLsbD i) sel

/-- `or8way` of eight bits of a row, from position `lo` on (R122). -/
def Gate.or8way (s : Nat → Signal) (lo : Nat) : Signal :=
  Gate.or (s lo) (Gate.or (s (lo + 1)) (Gate.or (s (lo + 2)) (Gate.or (s (lo + 3))
    (Gate.or (s (lo + 4)) (Gate.or (s (lo + 5)) (Gate.or (s (lo + 6)) (s (lo + 7))))))))

/-- `mux4way16` (R123). -/
def Gate.mux4way16 (w0 w1 w2 w3 : Word) (sel : BitVec 2) : Word :=
  Gate.mux16 (Gate.mux16 w0 w1 (sel.getLsbD 0)) (Gate.mux16 w2 w3 (sel.getLsbD 0)) (sel.getLsbD 1)

/-- `mux8way16` (R124). -/
def Gate.mux8way16 (w : Fin 8 → Word) (sel : BitVec 3) : Word :=
  Gate.mux16 (Gate.mux4way16 (w 0) (w 1) (w 2) (w 3) (sel.extractLsb' 0 2))
    (Gate.mux4way16 (w 4) (w 5) (w 6) (w 7) (sel.extractLsb' 0 2)) (sel.getLsbD 2)

/-- `demux4way` (R125). -/
def Gate.demux4way (inp : Signal) (sel : BitVec 2) : Fin 4 → Signal := fun k =>
  let pq := Gate.demux inp (sel.getLsbD 1)
  let lower := Gate.demux pq.1 (sel.getLsbD 0)
  let upper := Gate.demux pq.2 (sel.getLsbD 0)
  match k with
  | 0 => lower.1
  | 1 => lower.2
  | 2 => upper.1
  | 3 => upper.2

/-- `demux8way` (R126). -/
def Gate.demux8way (inp : Signal) (sel : BitVec 3) : Fin 8 → Signal := fun k =>
  let pq := Gate.demux inp (sel.getLsbD 2)
  let lower := Gate.demux4way pq.1 (sel.extractLsb' 0 2)
  let upper := Gate.demux4way pq.2 (sel.extractLsb' 0 2)
  match k with
  | 0 => lower 0
  | 1 => lower 1
  | 2 => lower 2
  | 3 => lower 3
  | 4 => upper 0
  | 5 => upper 1
  | 6 => upper 2
  | 7 => upper 3

/-- `zero_word`, all bits low (R127). -/
def Gate.zeroWord : Word := 0x0000#16

/-- `one`, the word with only bit 0 high (R127). -/
def Gate.oneWord : Word := 0x0001#16

/-- The truth tables of the single-signal operations (R111 to R117), every row: nand, and, or, xor of `a`, `b`; not of `a`;
mux of `a`, `b`, `sel`; demux of `inp`, `sel`. -/
def Gate.signalTablesHold : Bool :=
  [(false, false, true, false, false, false), (false, true, true, false, true, true),
    (true, false, true, false, true, true), (true, true, false, true, true, false)].all
      (fun (a, b, nandOut, andOut, orOut, xorOut) => Gate.nand a b == nandOut && Gate.and a b == andOut &&
        Gate.or a b == orOut && Gate.xor a b == xorOut) &&
  [(false, true), (true, false)].all (fun (a, out) => Gate.not a == out) &&
  [(false, false, false, false), (false, true, false, false), (true, false, false, true), (true, true, false, true),
    (false, false, true, false), (false, true, true, true), (true, false, true, false), (true, true, true, true)].all
      (fun (a, b, sel, out) => Gate.mux a b sel == out) &&
  [(false, false, false, false), (false, true, false, false), (true, false, true, false), (true, true, false, true)].all
    (fun (inp, sel, out0, out1) => Gate.demux inp sel == (out0, out1))

/-- The word-wide forms (R118 to R121) on sampled words, position by position. -/
def Gate.wordTablesHold (samples : List Word) : Bool :=
  samples.all fun v => samples.all fun w => (List.range 16).all fun k =>
    let a := v.getLsbD k
    let b := w.getLsbD k
    (Gate.not16 v).getLsbD k == Gate.not a && (Gate.and16 v w).getLsbD k == Gate.and a b &&
      (Gate.or16 v w).getLsbD k == Gate.or a b &&
      [false, true].all fun sel => (Gate.mux16 v w sel).getLsbD k == Gate.mux a b sel

/-- The wide fan-in forms (R122 to R126): or8way on all 256 rows, the selects and splits on every selector value, the
selects on words that the samples tell apart. -/
def Gate.wideTablesHold (w : Fin 8 → Word) : Bool :=
  (List.range 256).all (fun n => Gate.or8way (fun k => n.testBit k) 0 == (n != 0)) &&
  (List.finRange 4).all (fun sel => Gate.mux4way16 (w 0) (w 1) (w 2) (w 3) (BitVec.ofFin sel) == w (sel.castLE (by decide))) &&
  (List.finRange 8).all (fun sel => Gate.mux8way16 w (BitVec.ofFin sel) == w sel) &&
  [false, true].all fun inp =>
    (List.finRange 4).all (fun sel => (List.finRange 4).all fun k =>
      Gate.demux4way inp (BitVec.ofFin sel) k == (inp && k == sel)) &&
    (List.finRange 8).all (fun sel => (List.finRange 8).all fun k =>
      Gate.demux8way inp (BitVec.ofFin sel) k == (inp && k == sel))

/-- The document's test requirement for the signal algebra (R129): every gate matches its truth table, exhaustively for
signals and selectors, on samples for words. -/
def Gate.meetsTruthTables (samples : List Word) (w : Fin 8 → Word) : Bool :=
  Gate.signalTablesHold && Gate.wordTablesHold samples && Gate.wideTablesHold w

end Sys2Proof.Machine
end

