-- ==== Sys2Proof/Machine/Adders.lean ====
section
/-! DEFINITION. The adders, the ALU and the jump predicate built from gates (41_arithmetic_alu.md R140 to R149,
43_cpu_instructions.md R209). -/

namespace Sys2Proof.Machine

/-- `half_adder(a, b) -> (sum, carry)` (R140). -/
def Gate.halfAdder (a b : Signal) : Signal × Signal := (Gate.xor a b, Gate.and a b)

/-- `full_adder(a, b, c) -> (sum, carry)`, the carry the majority of the three (R141). -/
def Gate.fullAdder (a b c : Signal) : Signal × Signal :=
  (Gate.xor (Gate.xor a b) c, Gate.or (Gate.or (Gate.and a b) (Gate.and a c)) (Gate.and b c))

/-- The sum bit and the carry out of one position of the ripple: a half adder at position 0, a full adder at every other
one, fed with the carry of the position below (R142). -/
def Gate.ripple (v w : Word) : Nat → Signal × Signal
  | 0 => Gate.halfAdder (v.getLsbD 0) (w.getLsbD 0)
  | i + 1 => Gate.fullAdder (v.getLsbD (i + 1)) (w.getLsbD (i + 1)) (Gate.ripple v w i).2

/-- `add16`, the carry out of position 15 dropped (R142). -/
def Gate.add16 (v w : Word) : Word := wordOfBits fun i => (Gate.ripple v w i).1

/-- `inc16` (R144). -/
def Gate.inc16 (w : Word) : Word := Gate.add16 w Gate.oneWord

/-- `zr` from the two halves of `out` (R148). -/
def Gate.zeroFlag (out : Word) : Signal :=
  Gate.not (Gate.or (Gate.or8way out.getLsbD 0) (Gate.or8way out.getLsbD 8))

/-- `ng`, the top bit of `out` (R149). -/
def Gate.negFlag (out : Word) : Signal := out.getLsbD 15

/-- The ALU in the stated order of its stages (R146, R147). -/
def Gate.alu (x y : Word) (zx nx zy ny f no : Signal) : AluOut :=
  let x1 := Gate.mux16 x Gate.zeroWord zx
  let x2 := Gate.mux16 x1 (Gate.not16 x1) nx
  let y1 := Gate.mux16 y Gate.zeroWord zy
  let y2 := Gate.mux16 y1 (Gate.not16 y1) ny
  let r := Gate.mux16 (Gate.and16 x2 y2) (Gate.add16 x2 y2) f
  let out := Gate.mux16 r (Gate.not16 r) no
  { out := out, zr := Gate.zeroFlag out, ng := Gate.negFlag out }

/-- The jump predicate from gates (R209). -/
def Gate.jumpPredicate (zr ng j2 j1 j0 : Signal) : Signal :=
  let ps := Gate.and (Gate.not zr) (Gate.not ng)
  Gate.or (Gate.or (Gate.and j2 ng) (Gate.and j1 zr)) (Gate.and j0 ps)

end Sys2Proof.Machine
end

