-- ==== Sys2Proof/Machine/Cells.lean ====
section
/-! DEFINITION. Clock, bistable cell, 1-bit latch, 16-bit register and program counter at the cell level
(42_clock_and_storage.md R160 to R173, R184, R185).  A cell's reference to its Clock is the Clock given to its operations,
always the same one for the same cell.  A register is its 16 cells by bit position. -/

namespace Sys2Proof.Machine

/-- A Clock: one counter (R160). -/
structure Clock where
  /-- the counter -/
  count : Nat
deriving DecidableEq, Repr

/-- `now()` (R160). -/
def Clock.now (clk : Clock) : Nat := clk.count

/-- `advance()`, the only way the counter changes (R160). -/
def Clock.advance (clk : Clock) : Clock := { count := clk.count + 1 }

/-- A bistable cell (R162). -/
structure Cell where
  /-- the latched value -/
  cur : Signal
  /-- the pending next value -/
  next : Signal
  /-- the cycle at which the pending value becomes current -/
  nextTime : Nat
deriving DecidableEq, Repr

/-- A cell at launch, with a Clock at 0 (table R39, decision D4). -/
def Cell.launch (b : Signal) : Cell := { cur := b, next := b, nextTime := 0 }

/-- `write(value)`: the first write of a cycle shifts, a later one only replaces the pending value, and the first write to
a stale cell finds it low (R163). -/
def Cell.write (c : Cell) (clk : Clock) (value : Signal) : Cell :=
  if c.nextTime = clk.now then { cur := c.next, next := value, nextTime := clk.now + 1 }
  else if c.nextTime = clk.now + 1 then { cur := c.cur, next := value, nextTime := clk.now + 1 }
  else { cur := false, next := value, nextTime := clk.now + 1 }

/-- `read()`: the visible value (R164; decision D3, conflict C1, log entry 19). -/
def Cell.read (c : Cell) (clk : Clock) : Signal :=
  if c.nextTime = clk.now + 1 then c.cur else if c.nextTime = clk.now then c.next else false

/-- `apply(load, value)`: write the value when `load` is high, the visible value when it is low; the visible value is
returned (R170).  This is also the 1-bit latch (R171). -/
def Cell.apply (c : Cell) (clk : Clock) (load value : Signal) : Signal × Cell :=
  (c.read clk, c.write clk (Gate.mux (c.read clk) value load))

/-- The invariant of a cell beside its Clock (R162). -/
def Cell.timely (c : Cell) (clk : Clock) : Prop := c.nextTime ≤ clk.now + 1

/-- A cell that is not stale: it was written in this cycle or in the one before (R162, R168). -/
def Cell.live (c : Cell) (clk : Clock) : Prop := c.nextTime = clk.now + 1 ∨ c.nextTime = clk.now

/-- The abstract cell: the visible value and the pending one (R167). -/
structure AbstractCell where
  /-- the visible value -/
  v : Signal
  /-- the value pending at the next edge, if the cell was written in this cycle -/
  p : Option Signal
deriving DecidableEq, Repr

/-- `read()` of the abstract cell (R167). -/
def AbstractCell.read (c : AbstractCell) : Signal := c.v

/-- `write(value)` of the abstract cell (R167). -/
def AbstractCell.write (c : AbstractCell) (value : Signal) : AbstractCell := { v := c.v, p := some value }

/-- `advance()` of the abstract cell: a cycle without a write loses the value (R167). -/
def AbstractCell.advance (c : AbstractCell) : AbstractCell :=
  match c.p with
  | some b => { v := b, p := none }
  | none => { v := false, p := none }

/-- The abstract cell of a cell beside its Clock (R167). -/
def Cell.abstract (c : Cell) (clk : Clock) : AbstractCell :=
  { v := c.read clk, p := if c.nextTime = clk.now + 1 then some c.next else none }

/-- A 16-bit register: 16 cells by bit position (R172). -/
abbrev Register := Fin 16 → Cell

/-- A register at launch (table R39). -/
def Register.launch (w : Word) : Register := fun i => Cell.launch (w.getLsbD i)

/-- The word a row of 16 signals makes. -/
def wordOfWires (f : Fin 16 → Signal) : Word := wordOfBits fun i => if h : i < 16 then f ⟨i, h⟩ else false

/-- The visible word of a register. -/
def Register.read (r : Register) (clk : Clock) : Word := wordOfWires fun i => (r i).read clk

/-- `apply(load, word)`: `load` goes to all 16 latches (R172). -/
def Register.apply (r : Register) (clk : Clock) (load : Signal) (word : Word) : Word × Register :=
  (wordOfWires fun i => ((r i).apply clk load (word.getLsbD i)).1,
   fun i => ((r i).apply clk load (word.getLsbD i)).2)

/-- No cell of the register is stale. -/
def Register.live (r : Register) (clk : Clock) : Prop := ∀ i, (r i).live clk

/-- `apply(in, load, inc, reset)` of the program counter: probe, the chain of selects, and a load that is always high
(R184, R185). -/
def Register.pcApply (r : Register) (clk : Clock) (inWord : Word) (load inc reset : Signal) : Word × Register :=
  let probe := r.apply clk false inWord
  let hold := probe.1
  let incremented := Gate.inc16 hold
  let afterIncOrHold := Gate.mux16 hold incremented inc
  let afterLoad := Gate.mux16 afterIncOrHold inWord load
  let final := Gate.mux16 afterLoad Gate.zeroWord reset
  (hold, (probe.2.apply clk true final).2)

end Sys2Proof.Machine
end

