-- ==== Sys2Proof/Machine/Banks.lean ====
section
/-! DEFINITION. The memory banks at the cell level (42_clock_and_storage.md R175 to R181): a bank of `8^n` words by 8-way
composition down to a register, and the bank of 16384 words by one 4-way composition on top.  An address is split with its
bit 0 the least significant, and child `k` is the one selector value `k` picks (decision D8, log entry 18). -/

namespace Sys2Proof.Machine

/-- A bank of `8^n` words: a register for `n` = 0, else eight banks of the size below (R175, table R180: `n` = 1 to 4 are
the banks of 8, 64, 512 and 4096 words). -/
def Bank : Nat → Type
  | 0 => Register
  | n + 1 => Fin 8 → Bank n

/-- The part of an address of `3 (n + 1)` bits that selects the child (R179). -/
def bankHi (n : Nat) (addr : BitVec (3 * (n + 1))) : BitVec 3 := addr.extractLsb' (3 * n) 3

/-- The part of an address of `3 (n + 1)` bits that is the address inside the child (R179). -/
def bankLo (n : Nat) (addr : BitVec (3 * (n + 1))) : BitVec (3 * n) := addr.extractLsb' 0 (3 * n)

/-- A bank at launch, with the word of each address (table R39). -/
def Bank.launch : (n : Nat) → (BitVec (3 * n) → Word) → Bank n
  | 0, init => Register.launch (init 0)
  | n + 1, init => fun k => Bank.launch n fun lo => init (BitVec.ofNat _ (k.val * 2 ^ (3 * n) + lo.toNat))

/-- `apply(in, load, addr)`: every child is driven on every call, only the addressed one with `load` high (R176, R178), and
its output is selected (R177).  A register ignores the address (R175). -/
def Bank.apply : (n : Nat) → Bank n → Clock → Word → Signal → BitVec (3 * n) → Word × Bank n
  | 0, b, clk, inWord, load, _ => Register.apply b clk load inWord
  | n + 1, b, clk, inWord, load, addr =>
    let hi := bankHi n addr
    let lo := bankLo n addr
    let enable := Gate.demux8way true hi
    let child := fun k => Bank.apply n (b k) clk inWord (Gate.and load (enable k)) lo
    (Gate.mux8way16 (fun k => (child k).1) hi, fun k => (child k).2)

/-- The visible word of a bank at an address. -/
def Bank.word : (n : Nat) → Bank n → Clock → BitVec (3 * n) → Word
  | 0, b, clk, _ => Register.read b clk
  | n + 1, b, clk, addr => Bank.word n (b (bankHi n addr).toFin) clk (bankLo n addr)

/-- No cell of the bank is stale. -/
def Bank.live : (n : Nat) → Bank n → Clock → Prop
  | 0, b, clk => Register.live b clk
  | n + 1, b, clk => ∀ k : Fin 8, Bank.live n (b k) clk

/-- The bank of 16384 words: four banks of 4096 (R181). -/
abbrev Ram16K := Fin 4 → Bank 4

/-- The selector of a 14-bit address: `addr[13:12]` (table R180). -/
def ramHi (addr : BitVec 14) : BitVec 2 := addr.extractLsb' 12 2

/-- The address inside a bank of 4096 words: `addr[11:0]` (table R180). -/
def ramLo (addr : BitVec 14) : BitVec (3 * 4) := addr.extractLsb' 0 12

/-- The RAM at launch, `RAM_INIT` a word for each address (R434). -/
def Ram16K.launch (init : BitVec 14 → Word) : Ram16K :=
  fun k => Bank.launch 4 fun lo => init (BitVec.ofNat 14 (k.val * 4096 + lo.toNat))

/-- `apply(in, load, addr)` of the RAM (R176 to R178, R181). -/
def Ram16K.apply (b : Ram16K) (clk : Clock) (inWord : Word) (load : Signal) (addr : BitVec 14) : Word × Ram16K :=
  let enable := Gate.demux4way true (ramHi addr)
  let child := fun k => Bank.apply 4 (b k) clk inWord (Gate.and load (enable k)) (ramLo addr)
  (Gate.mux4way16 (child 0).1 (child 1).1 (child 2).1 (child 3).1 (ramHi addr), fun k => (child k).2)

/-- The visible word of the RAM at an address. -/
def Ram16K.word (b : Ram16K) (clk : Clock) (addr : BitVec 14) : Word :=
  Bank.word 4 (b (ramHi addr).toFin) clk (ramLo addr)

/-- No cell of the RAM is stale. -/
def Ram16K.live (b : Ram16K) (clk : Clock) : Prop := ∀ k, Bank.live 4 (b k) clk

end Sys2Proof.Machine
end

