-- ==== Sys2Proof/Machine/CellComputer.lean ====
section
/-! DEFINITION. The whole machine at the cell level: the CPU cycle line by line (43_cpu_instructions.md R201), the data
memory collaborator (20_memory.md R52, R63), and the Computer's step line by line (45_computer_step.md R260).  The
register-level step of Machine/Step.lean is the same machine (R169, R262). -/

namespace Sys2Proof.Machine

/-! ### The CPU -/

/-- The CPU: three registers and the private Clock they reference (R200, R161). -/
structure CellCpu where
  /-- the address register -/
  a : Register
  /-- the data register -/
  d : Register
  /-- the program counter's register -/
  pc : Register
  /-- the private Clock -/
  clock : Clock

/-- One CPU cycle, lines 1 to 9 of R201.  Line 9's probes of `A` and `PC` are hold drives (decision D25, log entry 21). -/
def CellCpu.cycle (cpu : CellCpu) (inM instr : Word) (reset : Signal) : CpuOut × CellCpu :=
  let clk := cpu.clock
  let i := instr.getLsbD 15
  let a := instr.getLsbD 12
  let probeD := cpu.d.apply clk false instr
  let probeA := cpu.a.apply clk false instr
  let y := Gate.mux16 probeA.1 inM a
  let r := Gate.alu probeD.1 y (instr.getLsbD 11) (instr.getLsbD 10) (instr.getLsbD 9) (instr.getLsbD 8)
    (instr.getLsbD 7) (instr.getLsbD 6)
  let a1 := (probeA.2.apply clk (Gate.or (Gate.not i) (Gate.and i (instr.getLsbD 5))) (Gate.mux16 instr r.out i)).2
  let d1 := (probeD.2.apply clk (Gate.and i (instr.getLsbD 4)) r.out).2
  let writeM := Gate.and i (instr.getLsbD 3)
  let jp := Gate.jumpPredicate r.zr r.ng (instr.getLsbD 2) (instr.getLsbD 1) (instr.getLsbD 0)
  let pc1 := (cpu.pc.pcApply clk probeA.1 (Gate.and i jp) (Gate.or (Gate.not i) (Gate.not jp)) reset).2
  let clk1 := clk.advance
  let outA := a1.apply clk1 false instr
  let outPc := pc1.pcApply clk1 instr false false false
  ({ outM := r.out, writeM := writeM, addressM := low15 outA.1, pc := low15 outPc.1 },
   { a := outA.2, d := d1, pc := outPc.2, clock := clk1 })

/-! ### The data memory collaborator -/

/-- The display: its words, and the write that the next edge of the external Clock makes visible (R56, R449; log entry
22). -/
structure ScreenStore where
  /-- the visible words -/
  words : Memory
  /-- the pending write -/
  pending : Option (BitVec 13 × Word)

/-- `fetch(in_word, load, addr13)`: the visible word, and the write of the last call of the cycle pending (R56). -/
def ScreenStore.apply (s : ScreenStore) (inWord : Word) (load : Signal) (addr : BitVec 13) : Word × ScreenStore :=
  (s.words.read addr.toNat, { words := s.words, pending := if load then some (addr, inWord) else none })

/-- The edge of the external Clock at the display. -/
def ScreenStore.edge (s : ScreenStore) : ScreenStore :=
  match s.pending with
  | some (addr, w) => { words := s.words.write addr.toNat w, pending := none }
  | none => s

/-- The addressable memory behind the data address map (table R52). -/
structure DataMemory where
  /-- the RAM bank -/
  ram : Ram16K
  /-- the display collaborator -/
  screen : ScreenStore

/-- One call of the data memory: every part is driven, `load` reaches the part that `addr[14]` and `addr[13]` select, and
the keyboard word or the open value answers above the display (R52, R53, R63). -/
def DataMemory.apply (m : DataMemory) (clk : Clock) (inWord : Word) (load : Signal) (addr : Addr) (kbd : Word)
    (high : Addr → Word) : Word × DataMemory :=
  let device := addr.getLsbD 14
  let upper := addr.getLsbD 13
  let ram := m.ram.apply clk inWord (Gate.and load (Gate.not device)) (addr.extractLsb' 0 14)
  let screen := m.screen.apply inWord (Gate.and load (Gate.and device (Gate.not upper))) (addr.extractLsb' 0 13)
  let highWord := if addr.toNat = Config.keyboardAddr then kbd else high addr
  (Gate.mux16 ram.1 (Gate.mux16 screen.1 highWord upper) device, { ram := ram.2, screen := screen.2 })

/-! ### The Computer -/

/-- The Computer with its collaborators and the carried values (R258, R259). -/
structure CellComputer where
  /-- the CPU -/
  cpu : CellCpu
  /-- the data memory -/
  mem : DataMemory
  /-- the external Clock, referenced by the RAM's cells -/
  clock : Clock
  /-- the instruction store -/
  rom : Memory
  /-- the carried fetch address -/
  pc : Addr
  /-- the carried data address -/
  addressM : Addr
  /-- the carried data word -/
  inM : Word

/-- The machine at launch: every cell `(b, b, 0)`, both Clocks 0 (table R39, R432, R434). -/
def CellComputer.launch (rom : Memory) (ramInit : BitVec 14 → Word) (screenInit : Memory) : CellComputer where
  cpu := { a := Register.launch 0#16, d := Register.launch 0#16, pc := Register.launch 0#16, clock := { count := 0 } }
  mem := { ram := Ram16K.launch ramInit, screen := { words := screenInit, pending := none } }
  clock := { count := 0 }
  rom := rom
  pc := 0#15
  addressM := 0#15
  inM := 0#16

/-- `step(reset)`, lines 1 to 6 of R260, with `KBD(t)` and `HIGH_READ(·, t)` of the step. -/
def CellComputer.step (c : CellComputer) (reset : Signal) (kbd : Word) (high : Addr → Word) : CpuOut × CellComputer :=
  let instr := c.rom.read c.pc.toNat
  let cy := c.cpu.cycle c.inM instr reset
  let out := cy.1
  let written := c.mem.apply c.clock out.outM out.writeM out.addressM kbd high
  let clk1 := c.clock.advance
  let atEdge : DataMemory := { ram := written.2.ram, screen := written.2.screen.edge }
  let fresh := atEdge.apply clk1 out.outM false out.addressM kbd high
  (out,
   { cpu := cy.2, mem := fresh.2, clock := clk1, rom := c.rom, pc := out.pc, addressM := out.addressM, inM := fresh.1 })

/-- A cell-level machine stands for a register-level state: every cell is live and shows the state's bits, the Clocks and
the carried values are the same, no write is pending at the display (R169). -/
structure Represents (c : CellComputer) (s : State) : Prop where
  /-- the visible `A` -/
  a : c.cpu.a.read c.cpu.clock = s.A
  /-- the visible `D` -/
  d : c.cpu.d.read c.cpu.clock = s.D
  /-- the visible `PC` -/
  pc : c.cpu.pc.read c.cpu.clock = s.PC
  /-- no cell of `A` is stale -/
  aLive : c.cpu.a.live c.cpu.clock
  /-- no cell of `D` is stale -/
  dLive : c.cpu.d.live c.cpu.clock
  /-- no cell of `PC` is stale -/
  pcLive : c.cpu.pc.live c.cpu.clock
  /-- the CPU Clock -/
  cpuClock : c.cpu.clock.count = s.cpuClock
  /-- the external Clock -/
  extClock : c.clock.count = s.extClock
  /-- the visible RAM -/
  ram : ∀ addr : BitVec 14, c.mem.ram.word c.clock addr = s.ram.read addr.toNat
  /-- no cell of RAM is stale -/
  ramLive : c.mem.ram.live c.clock
  /-- the display -/
  screen : c.mem.screen = { words := s.screen, pending := none }
  /-- the instruction store -/
  rom : c.rom = s.rom
  /-- the carried fetch address -/
  carriedPc : c.pc = s.pc
  /-- the carried data address -/
  carriedAddressM : c.addressM = s.addressM
  /-- the carried data word -/
  inM : c.inM = s.inM

end Sys2Proof.Machine
end

