-- ==== Sys2Proof/WellFormed.lean ====
section
/-! DEFINITION. Well-formedness.  Of an instruction there is nothing to check: every field has the fixed width the format
gives it, a wrong width is a type error (40_signal_algebra.md R128, decision D18), and every value of every field is legal
(30_encoding.md R85, R86, R95).  What can be ill formed is a source of the instruction store (20_memory.md R65, R66). -/

namespace Sys2Proof

/-- Every instruction is well formed: no value of any field is reserved or illegal (R95).  Log entry 23. -/
def Instr.wf (_ : Instr) : Bool := true

/-- A line of the textual form that gives a word: exactly 16 characters, each `0` or `1` (R65). -/
def wordLineWf (line : List Char) : Bool :=
  line.length == 16 && line.all (fun ch => ch == '0' || ch == '1')

/-- A line of the textual form that the loader does not refuse: a blank or short one, which it skips, or one that gives
a word (R65, decision D21, log entry 15). -/
def sourceLineWf (line : List Char) : Bool := line.length < 16 || wordLineWf line

/-- A list of words fits the instruction store: at most 32768 (R64, R65). -/
def romImageWf (words : List Word) : Bool := words.length ≤ Config.romWords

/-- The bytes of a binary source make whole words that fit the store: an even number of bytes, at most two for each word
(R66; the framing is decision D16's natural family, and the bound, which D21 states of the textual form only, is the
model's choice, log entry 16). -/
def romBytesWf (bytes : List (BitVec 8)) : Bool :=
  bytes.length % 2 == 0 && bytes.length ≤ 2 * Config.romWords

end Sys2Proof
end

