-- ==== Sys2Proof/Machine/Loader.lean ====
section
/-! DEFINITION. What the host does before step 0: loading the instruction store from one of its two source forms
(20_memory.md R65, R66; 70_reset_and_hazards.md R436), and the launch state (R430 to R435). -/

namespace Sys2Proof.Machine

/-- Why a load of the instruction store fails.  A failed load is never partial: the machine is not launched (R66, R406). -/
inductive LoadError where
  /-- a line of more than 16 characters; raised by `loadText`; safe, no machine runs (decision D21) -/
  | longLine
  /-- a character other than `0` and `1` in a line of 16; raised by `loadText`; safe (decision D21) -/
  | badCharacter
  /-- more than 32768 words; raised by both loaders; safe (decision D21 for the textual form, DESIGN CHOICE of the model
  for the binary form, log entry 16) -/
  | tooManyWords
  /-- a number of bytes that makes no whole words; raised by `loadBinary`; safe (log entry 16) -/
  | oddBytes
  /-- the source cannot be read (R66, R406); raised by `loadRom`; safe -/
  | ioFailure
deriving DecidableEq, Repr

/-- Split a text into its lines: `cur` is the line read so far, reversed. -/
def splitLines (cur : List Char) : List Char → List (List Char)
  | [] => [cur.reverse]
  | ch :: rest => if ch = '\n' then cur.reverse :: splitLines [] rest else splitLines (ch :: cur) rest

/-- The word of a line of `0` and `1`, most significant bit first (R65). -/
def wordOfLine (line : List Char) : Word :=
  line.foldl (fun w ch => (w <<< 1) ||| (if ch = '1' then 1#16 else 0#16)) 0#16

/-- The words of the accepted lines in their order, blank and short lines skipped (R65, decision D21, log entry 15). -/
def wordsOfLines : List (List Char) → Except LoadError (List Word)
  | [] => .ok []
  | line :: rest =>
    if line.length < 16 then wordsOfLines rest
    else if 16 < line.length then .error .longLine
    else if !wordLineWf line then .error .badCharacter
    else (wordsOfLines rest).map (wordOfLine line :: ·)

/-- The instruction store with word `k` of a source at address `k`; words beyond the source are not listed (R436, D17).
More words than the store has are refused: decision D21 for the textual form; that the binary form, of which the spec
says nothing here, is refused likewise is a DESIGN CHOICE of the model, log entry 16. -/
def romOfWords (words : List Word) : Except LoadError Memory :=
  if romImageWf words then .ok (Memory.writeAll [] 0 words) else .error .tooManyWords

/-- Load the instruction store from the textual form (R65). -/
def loadText (source : List Char) : Except LoadError Memory :=
  (wordsOfLines (splitLines [] source)).bind romOfWords

/-- The word of its two bytes in their order in the source. -/
def wordOfBytes (order : ByteOrder) (first second : BitVec 8) : Word :=
  match order with
  | .big => first ++ second
  | .little => second ++ first

/-- The words of the bytes of a binary source, two bytes a word, no header (decision D16, log entry 16). -/
def wordsOfBytes (order : ByteOrder) : List (BitVec 8) → Except LoadError (List Word)
  | [] => .ok []
  | [_] => .error .oddBytes
  | b1 :: b2 :: rest => (wordsOfBytes order rest).map (wordOfBytes order b1 b2 :: ·)

/-- Load the instruction store from the binary form, its byte order the open parameter `ROM_BIN_ORDER` (R66).
Refusing an odd number of bytes and refusing more than 32768 words are DESIGN CHOICES of the model, log entry 16. -/
def loadBinary (bytes : List (BitVec 8)) : Except LoadError Memory :=
  (wordsOfBytes Config.romBinOrder bytes).bind romOfWords

/-- A source of the instruction store, as the host gives it to a load. -/
inductive RomSource where
  /-- the textual form (R65) -/
  | text (source : List Char)
  /-- the binary form (R66) -/
  | binary (bytes : List (BitVec 8))
  /-- a source whose reading fails with an input/output error (R406) -/
  | unreadable
deriving DecidableEq, Repr

/-- Load the instruction store, all or nothing (R406, R436). -/
def loadRom : RomSource → Except LoadError Memory
  | .text source => loadText source
  | .binary bytes => loadBinary bytes
  | .unreadable => .error .ioFailure

/-- The line of the textual form that gives a word (R65). -/
def lineOfWord (w : Word) : List Char := (List.range 16).map fun k => if w.getLsbD (15 - k) then '1' else '0'

/-- A line that a textual source may hold beside the malformed ones (R65). -/
inductive SourceLine where
  /-- a blank or short line, skipped -/
  | short (chars : List Char)
  /-- the line of 16 characters of a word -/
  | word (w : Word)
deriving DecidableEq, Repr

/-- A short line has fewer than 16 characters, none of them a line feed. -/
def SourceLine.wf : SourceLine → Bool
  | .short chars => chars.length < 16 && chars.all (· != '\n')
  | .word _ => true

/-- The characters of a line, without its line feed. -/
def SourceLine.chars : SourceLine → List Char
  | .short chars => chars
  | .word w => lineOfWord w

/-- The word a line gives, if it gives one. -/
def SourceLine.word? : SourceLine → Option Word
  | .short _ => none
  | .word w => some w

/-- The textual source with these lines, each ended by a line feed (R65). -/
def textOfLines (lines : List SourceLine) : List Char := lines.flatMap fun line => line.chars ++ ['\n']

/-- The plain textual source of a list of words, one line each and no other line (R65). -/
def textOfWords (words : List Word) : List Char := textOfLines (words.map .word)

/-- A binary source for a list of words, two bytes each (R66, decision D16). -/
def bytesOfWords (order : ByteOrder) (words : List Word) : List (BitVec 8) :=
  words.flatMap fun w =>
    match order with
    | .big => [w.extractLsb' 8 8, w.extractLsb' 0 8]
    | .little => [w.extractLsb' 0 8, w.extractLsb' 8 8]

/-- The launch state for a program and launch contents of RAM and display, lists of words from address 0 on, and the host's
inputs to come (R435, R436, table R39).  `State.reset` is the launch with none of them. -/
def State.launch (rom : Memory) (ramInit screenInit : List Word) (resetIn : List Signal) (key : Word)
    (keyIn : List Word) : State :=
  { State.reset with
    rom := rom
    ram := Memory.writeAll [] 0 (ramInit.take Config.ramWords)
    screen := Memory.writeAll [] 0 (screenInit.take Config.screenWords)
    resetIn := resetIn
    keyboard := key
    keyIn := keyIn }

/-- Load and launch: a load that fails launches no machine (R406, R436). -/
def launchFrom (source : RomSource) (ramInit screenInit : List Word) (resetIn : List Signal) (key : Word)
    (keyIn : List Word) : Except LoadError State :=
  (loadRom source).map fun rom => State.launch rom ramInit screenInit resetIn key keyIn

end Sys2Proof.Machine
end

