-- ==== Sys2Proof/Safety.lean ====
section
/-! DEFINITION. What the claims speak of: the invariant of a state between steps, a run that never stops, and the effect of
an instruction on everything a program or the host can see, written out from the rules and not from the meanings. -/

namespace Sys2Proof.Machine

/-- What holds between steps (canonical stores; R28: the carried addresses are copies of the low 15 bits of `PC` and `A`;
R256: after `t` steps both Clocks read `t`). -/
abbrev State.Inv (s : State) : Prop :=
  s.ram.wf Config.ramWords = true ∧ s.screen.wf Config.screenWords = true ∧ s.rom.wf Config.romWords = true ∧
    s.pc = low15 s.PC ∧ s.addressM = low15 s.A ∧ s.cpuClock = s.t ∧ s.extClock = s.t

/-- From the first step on, the carried `inM` is the current word of RAM or display at the carried address (R27). -/
abbrev State.InMCurrent (s : State) : Prop :=
  0 < s.t → s.addressM.toNat < Config.keyboardAddr → s.inM = memRead s s.addressM

/-- A run of `k` steps is safe when the machine is still running after it: it can stop only in a fault or a refusal. -/
def SafeRun (k : Nat) (s : State) : Prop := ∃ t, core.run k s = .next t

/-- Whether a jump condition holds of a result read as a signed word (R220 to R227). -/
def jumpsOn (jump : Jump) (out : Word) : Bool :=
  match jump with
  | .never => false
  | .jgt => decide (0 < out.toInt)
  | .jeq => decide (out.toInt = 0)
  | .jge => decide (0 ≤ out.toInt)
  | .jlt => decide (out.toInt < 0)
  | .jne => decide (out.toInt ≠ 0)
  | .jle => decide (out.toInt ≤ 0)
  | .jmp => true

/-- The word the refresh read of the step from `s` returns at an address, `mem` the data words after the step's write:
RAM and display words, the keyboard sample, the open value (R61, R254). -/
def refreshed (s : State) (mem : Addr → Word) (addr : Addr) : Word :=
  if addr.toNat < 24576 then mem addr else if addr.toNat = 24576 then s.keyboard else Config.highRead addr s.t

/-- Every RAM and display word reads as before. -/
def DataKept (s t : State) : Prop := ∀ addr : Addr, addr.toNat < 24576 → memRead t addr = memRead s addr

/-- The word at one address is `w`, if that is an address of RAM or display, and every other RAM and display word reads as
before (R62). -/
def DataStored (s t : State) (at_ : Addr) (w : Word) : Prop :=
  ∀ addr : Addr, addr.toNat < 24576 → memRead t addr = if addr = at_ then w else memRead s addr

/-- What every step does beside its instruction's own effect: the addresses are carried (R214, R255), `inM` is refreshed
after the write (R254), both Clocks advance once (R256), the instruction store stays (R75), and the inputs of the next
step take their places. -/
def Carried (s t : State) : Prop :=
  t.pc = low15 t.PC ∧ t.addressM = low15 t.A ∧ t.inM = refreshed s (memRead t) (low15 t.A) ∧
    t.cpuClock = s.cpuClock + 1 ∧ t.extClock = s.extClock + 1 ∧ t.rom = s.rom ∧
    t.t = s.t + 1 ∧ t.resetIn = s.resetIn.tail ∧ t.keyIn = s.keyIn.tail ∧ t.keyboard = s.keyIn.headD s.keyboard

/-- The effect of a compute instruction with result `out` and jump signal `jp`, on all of the state (R216). -/
def ComputeEffect (s t : State) (out : Word) (dest : Dest) (jp : Bool) : Prop :=
  t.A = (if dest.a then out else s.A) ∧ t.D = (if dest.d then out else s.D) ∧
    t.PC = (if resetNow s then 0x0000#16 else if jp then s.A else s.PC + 1#16) ∧
    (if dest.m then DataStored s t (low15 t.A) out else DataKept s t) ∧ Carried s t

/-- An instruction completes as a compute instruction with result `out`, its jump on the sign of `out` (R216, R220 to
R227). -/
def Computes (i : Instr) (s : State) (out : Word) (dest : Dest) (jump : Jump) : Prop :=
  ∃ t, exec i s = .next t ∧ ComputeEffect s t out dest (jumpsOn jump out)

/-- The state with its `reset` input of the coming step set. -/
def State.withReset (s : State) (reset : Signal) : State := { s with resetIn := reset :: s.resetIn.tail }

end Sys2Proof.Machine
end

