-- ==== Sys2Proof/Certificates/Slice0/Obligations.lean ====
section
/-! DEFINITION. The statements for the provers.  Each is about all states, operands and inputs that its hypotheses admit;
none is about a program. -/

open Sys2Proof Sys2Proof.Machine

/-- The twelve words of vector V5, each written out from the field positions of tables R82 and R83, decode to the
instructions the vector reads them as; two of them differ only in bits 14..13 and decode alike. The positions of the
conditions in the jump field are decision D6, the ignored bits decision D7 (log entries 12 and 13).
(95_test_vectors.md V5, 30_encoding.md §1 tables R82, R83) -/
def Obligations.SpecWordsDecode : Prop :=
  decodeWord 0b0000000000000000#16 = .loadAddr 0#15 ∧
  decodeWord 0b0111111111111111#16 = .loadAddr 32767#15 ∧
  decodeWord 0b0110000000000000#16 = .loadAddr 24576#15 ∧
  decodeWord 0b1111110000010000#16 = .compM ⟨false, true, false⟩ .never ∧
  decodeWord 0b1111010011010000#16 = .dMinusM ⟨false, true, false⟩ .never ∧
  decodeWord 0b1110001100000001#16 = .compD ⟨false, false, false⟩ .jgt ∧
  decodeWord 0b1110101010000111#16 = .zero ⟨false, false, false⟩ .jmp ∧
  decodeWord 0b1110001100001000#16 = .compD ⟨false, false, true⟩ .never ∧
  decodeWord 0b1111110111101000#16 = .mPlus1 ⟨true, false, true⟩ .never ∧
  decodeWord 0b1000000000000000#16 = .dAndA ⟨false, false, false⟩ .never ∧
  decodeWord 0b1111111111111111#16 = .c1111111 ⟨true, true, true⟩ .jmp ∧
  decodeWord 0b1001111111111111#16 = .c1111111 ⟨true, true, true⟩ .jmp

/-- For every instruction i, of either format and with every value of its literal, destination and jump fields, and for
every list of words after it: decoding the words of i followed by that list gives i and leaves exactly that list.
(30_encoding.md §1, §2, §4) -/
def Obligations.DecodeOfEncodeIsTheInstruction : Prop :=
  ∀ (i : Instr) (rest : List Word), decode (encode i ++ rest) = .ok (i, rest)

/-- For every one of the 65536 words w: encoding the instruction w decodes to gives w itself when bit 15 is 0, and w with
bits 14 and 13 set when bit 15 is 1. So every word is an instruction and no other bit of a word is dropped. That the
two bits are ignored and emitted as 11 is decision D7 (log entry 13). (30_encoding.md §2, §4, 92_eei_decisions.md D7) -/
def Obligations.EncodeOfDecodeIsTheWord : Prop :=
  ∀ w : Word, encodeWord (decodeWord w) = if w.getLsbD 15 then w ||| 0x6000#16 else w

/-- For every word w: if bit 15 is 0, w is a load-address instruction whose literal is bits 14..0; if bit 15 is 1, w is a
compute instruction whose second operand is inM iff bit 12 is 1, whose bit k of c is bit 6 + k of w (zx, nx, zy, ny,
f, no from bit 11 down), whose destination flags A, D, M are bits 5, 4, 3 and whose jump code is bits 2..0. (R81, R82,
R83) -/
def Obligations.FormatAndFieldsAreTheWordsBits : Prop :=
  ∀ w : Word,
    (w.getLsbD 15 = false → (decodeWord w).shape = .load (w.extractLsb' 0 15)) ∧
    (w.getLsbD 15 = true → ∃ src c dest jump, (decodeWord w).shape = .comp src c dest jump ∧
      (src = .inM ↔ w.getLsbD 12 = true) ∧ (∀ k < 6, c.getLsbD k = w.getLsbD (6 + k)) ∧
      dest.a = w.getLsbD 5 ∧ dest.d = w.getLsbD 4 ∧ dest.m = w.getLsbD 3 ∧
      (∀ k < 3, jump.code.getLsbD k = w.getLsbD k))

/-- For all words v and w with bit 15 of v high, if v and w agree on every bit but possibly 14 and 13, they decode to the
same instruction. That these bits are ignored is decision D7 of the spec (log entry 13). (30_encoding.md §2,
92_eei_decisions.md D7) -/
def Obligations.DecoderIgnoresBits14And13 : Prop :=
  ∀ v w : Word, v.getLsbD 15 = true → (∀ k, k < 16 → k ≠ 13 → k ≠ 14 → w.getLsbD k = v.getLsbD k) →
    decodeWord w = decodeWord v

/-- For every word w and every instruction i: w under the mask of i's row equals that row's match value iff that row is
the row of the instruction w decodes to. So the 129 rows overlap nowhere and cover every word. (30_encoding.md §4,
opcode_table.json) -/
def Obligations.EveryWordMatchesExactlyItsOwnRow : Prop :=
  ∀ (w : Word) (i : Instr), w &&& i.tableMask = i.tableMatch ↔
    (i.tableMask = (decodeWord w).tableMask ∧ i.tableMatch = (decodeWord w).tableMatch)

/-- For every n from 0 to 32767: the load-address word for n has unsigned value n, its low 15 bits zero-extended are n,
and executing it in any state gives a next state whose A has unsigned value n. (R91) -/
def Obligations.AddressRoundTrip : Prop :=
  ∀ (n : Nat) (s : State), n < 32768 →
    (encodeWord (.loadAddr (BitVec.ofNat 15 n))).toNat = n ∧
    (BitVec.zeroExtend 16 ((encodeWord (.loadAddr (BitVec.ofNat 15 n))).extractLsb' 0 15)).toNat = n ∧
    ∃ t, exec (.loadAddr (BitVec.ofNat 15 n)) s = .next t ∧ t.A.toNat = n

/-- For every state s and instruction i: if the word of the instruction store at the carried fetch address pc decodes to
i, then step s is exec i s, with nothing added around it; and where the invariant holds, that address is PC[14:0].
(45_computer_step.md §2, 10_state.md §3) -/
def Obligations.StepRunsTheDecodedInstruction : Prop :=
  ∀ (s : State) (i : Instr), decode [s.rom.read s.pc.toNat] = .ok (i, []) →
    step s = exec i s ∧ (s.Inv → s.pc = low15 s.PC)

/-- For every state s, step s answers a next state, neither a fault nor a refusal; and for every k, the machine is still
running after k steps from s. (R264) -/
def Obligations.EveryStepAnswersANextState : Prop :=
  (∀ s : State, ∃ t, step s = .next t) ∧ ∀ (k : Nat) (s : State), SafeRun k s

/-- For every instruction i and every state s, exec i s answers a next state. (R219) -/
def Obligations.EveryInstructionCompletes : Prop :=
  ∀ (i : Instr) (s : State), ∃ t, exec i s = .next t

/-- For every state s, with w the word of the instruction store at the carried fetch address, y, out and the jump signal
computed from the bits of w as in the transition function: step s answers a state t with A the word w, out or the old
A (R205), D out or the old D (R206), PC 0, the old A or PC + 1 (R212), the addresses sampled from the new A and PC
(R214), out written to RAM or display at the new address iff bits 15 and 3 are high and every other word as before
(R253), inM the word read there after the write (R254), the instruction store as before (R75), and both Clocks
advanced once (R256). The transition function itself is the spec's own derivation (R262). Choices it rests on: the
numbering of the jump conditions, decision D6 (log entry 12); that the written word is the ALU output, decision D22
(log entry 20); that the write goes to the new address, decision D24 (log entry 17); the open value read above 24576
and writes there changing nothing, decisions D10 and D11 (log entries 10 and 27); the Clock counters (log entry 6).
(45_computer_step.md §2, §3, §4, 43_cpu_instructions.md §1, §2, §3, 20_memory.md §8, 92_eei_decisions.md D6, D10, D11,
D22, D24) -/
def Obligations.StepOnInstructionBits : Prop :=
  ∀ s : State,
    let w := s.rom.read s.pc.toNat
    let i := w.getLsbD 15
    let y := if w.getLsbD 12 then s.inM else s.A
    let r := alu s.D y (w.getLsbD 11) (w.getLsbD 10) (w.getLsbD 9) (w.getLsbD 8) (w.getLsbD 7) (w.getLsbD 6)
    let jp := (w.getLsbD 2 && r.ng) || (w.getLsbD 1 && r.zr) || (w.getLsbD 0 && !r.ng && !r.zr)
    ∃ t, step s = .next t ∧
      t.A = (if i = false then w else if w.getLsbD 5 then r.out else s.A) ∧
      t.D = (if i && w.getLsbD 4 then r.out else s.D) ∧
      t.PC = (if resetNow s then 0x0000#16 else if i && jp then s.A else s.PC + 1#16) ∧
      t.addressM = low15 t.A ∧ t.pc = low15 t.PC ∧
      (if i && w.getLsbD 3 then DataStored s t t.addressM r.out else DataKept s t) ∧
      t.inM = refreshed s (memRead t) t.addressM ∧
      t.rom = s.rom ∧ t.cpuClock = s.cpuClock + 1 ∧ t.extClock = s.extClock + 1

/-- For every literal and every state s, with reset high or low: executing @value answers a state t with A the zero-
extended literal, PC 0 under reset and PC + 1 otherwise, D and every RAM and display word as before, addressM the
literal, inM the word read at the literal (R215, R254); both Clocks advance once (R256) and the instruction store
stays (R75). That the step number t goes up by one and the inputs resetIn, keyIn and keyboard move on to those of the
next step is the model's choice (log entries 8, 9 and 11), as are the Clock counters without a wrap (log entry 6); the
open value read above 24576 is decision D10 (log entry 10). (43_cpu_instructions.md §4, 45_computer_step.md §2, §3,
20_memory.md §8, 92_eei_decisions.md D10, D15, D19) -/
def Obligations.LoadAddressEffect : Prop :=
  ∀ (value : BitVec 15) (s : State), ∃ t, exec (.loadAddr value) s = .next t ∧
    t.A = value.zeroExtend 16 ∧ t.D = s.D ∧ t.PC = (if resetNow s then 0x0000#16 else s.PC + 1#16) ∧
    t.addressM = value ∧ DataKept s t ∧ Carried s t

/-- For every compute instruction (each of the 128 constructors, with every destination and jump), with its fields a, c,
dest, jump, and every state s: it completes; out, zr, ng are the ALU of D and A or inM under c; A, D and the word at
the new A[14:0] take out exactly when selected and are otherwise as before; PC is 0 under reset, the old A when (j[2]
& ng) | (j[1] & zr) | (j[0] & ~ng & ~zr), and PC + 1 otherwise; every other RAM and display word and the instruction
store are as before; the carried values are refreshed (R216, R254), both Clocks advance once (R256) and the
instruction store stays (R75). That the step number t goes up by one and the inputs resetIn, keyIn and keyboard move
on to those of the next step is the model's choice (log entries 8, 9 and 11), as are the Clock counters without a wrap
(log entry 6). The spec's decisions it rests on: D6 the jump numbering (log entry 12), D22 the written word (log entry
20), D24 the address of the write (log entry 17), D10 and D11 the addresses above the display (log entries 10 and 27).
(43_cpu_instructions.md §4, 45_computer_step.md §2, §3, 20_memory.md §8, 92_eei_decisions.md D6, D10, D11, D15, D19,
D22, D24) -/
def Obligations.ComputeEffectOfEveryComputeInstruction : Prop :=
  ∀ (i : Instr) (src : SrcY) (c : BitVec 6) (dest : Dest) (jump : Jump) (s : State),
    i.shape = .comp src c dest jump →
    let y := match src with
      | .regA => s.A
      | .inM => s.inM
    let r := alu s.D y (c.getLsbD 5) (c.getLsbD 4) (c.getLsbD 3) (c.getLsbD 2) (c.getLsbD 1) (c.getLsbD 0)
    let j := jump.code
    ∃ t, exec i s = .next t ∧
      ComputeEffect s t r.out dest
        ((j.getLsbD 2 && r.ng) || (j.getLsbD 1 && r.zr) || (j.getLsbD 0 && !r.ng && !r.zr))

/-- For every state, destination and jump, each of these compute instructions completes with the result given, x = D and y
= A for a = 0, y = inM for a = 1, arithmetic modulo 2^16: c=000000: x & y; c=000001: ~(x & y); c=000010: x + y;
c=000011: -x - y - 1; c=000100: x & ~y; c=000101: ~x | y; c=000110: x - y - 1; c=000111: y - x. Its jump is taken on
the sign of that result, its destinations take it, and everything else is as before. The closed forms are the spec's
own derivation from the ALU definition ("Every closed form below is derived from the ALU definition").
(44_compute_functions.md, c = 000000 to 000111, 41_arithmetic_alu.md §2) -/
def Obligations.ResultsBothOperandsPlain : Prop :=
  ∀ (s : State) (dest : Dest) (jump : Jump),
    Computes (.dAndA dest jump) s (s.D &&& s.A) dest jump ∧
    Computes (.dAndM dest jump) s (s.D &&& s.inM) dest jump ∧
    Computes (.c0000001 dest jump) s (~~~(s.D &&& s.A)) dest jump ∧
    Computes (.c1000001 dest jump) s (~~~(s.D &&& s.inM)) dest jump ∧
    Computes (.dPlusA dest jump) s (s.D + s.A) dest jump ∧
    Computes (.dPlusM dest jump) s (s.D + s.inM) dest jump ∧
    Computes (.c0000011 dest jump) s (-s.D - s.A - 1#16) dest jump ∧
    Computes (.c1000011 dest jump) s (-s.D - s.inM - 1#16) dest jump ∧
    Computes (.c0000100 dest jump) s (s.D &&& ~~~s.A) dest jump ∧
    Computes (.c1000100 dest jump) s (s.D &&& ~~~s.inM) dest jump ∧
    Computes (.c0000101 dest jump) s (~~~s.D ||| s.A) dest jump ∧
    Computes (.c1000101 dest jump) s (~~~s.D ||| s.inM) dest jump ∧
    Computes (.c0000110 dest jump) s (s.D - s.A - 1#16) dest jump ∧
    Computes (.c1000110 dest jump) s (s.D - s.inM - 1#16) dest jump ∧
    Computes (.aMinusD dest jump) s (s.A - s.D) dest jump ∧
    Computes (.mMinusD dest jump) s (s.inM - s.D) dest jump

/-- For every state, destination and jump, each of these compute instructions completes with the result given, x = D and y
= A for a = 0, y = inM for a = 1, arithmetic modulo 2^16: c=001000: 0; c=001001: -1; c=001010: x; c=001011: ~x;
c=001100: x; c=001101: ~x; c=001110: x - 1; c=001111: -x. Its jump is taken on the sign of that result, its
destinations take it, and everything else is as before. The closed forms are the spec's own derivation from the ALU
definition ("Every closed form below is derived from the ALU definition"). (44_compute_functions.md, c = 001000 to
001111, 41_arithmetic_alu.md §2) -/
def Obligations.ResultsXOnlyPlain : Prop :=
  ∀ (s : State) (dest : Dest) (jump : Jump),
    Computes (.c0001000 dest jump) s 0#16 dest jump ∧
    Computes (.c1001000 dest jump) s 0#16 dest jump ∧
    Computes (.c0001001 dest jump) s (-1#16) dest jump ∧
    Computes (.c1001001 dest jump) s (-1#16) dest jump ∧
    Computes (.c0001010 dest jump) s s.D dest jump ∧
    Computes (.c1001010 dest jump) s s.D dest jump ∧
    Computes (.c0001011 dest jump) s (~~~s.D) dest jump ∧
    Computes (.c1001011 dest jump) s (~~~s.D) dest jump ∧
    Computes (.compD dest jump) s s.D dest jump ∧
    Computes (.c1001100 dest jump) s s.D dest jump ∧
    Computes (.notD dest jump) s (~~~s.D) dest jump ∧
    Computes (.c1001101 dest jump) s (~~~s.D) dest jump ∧
    Computes (.dMinus1 dest jump) s (s.D - 1#16) dest jump ∧
    Computes (.c1001110 dest jump) s (s.D - 1#16) dest jump ∧
    Computes (.negD dest jump) s (-s.D) dest jump ∧
    Computes (.c1001111 dest jump) s (-s.D) dest jump

/-- For every state, destination and jump, each of these compute instructions completes with the result given, x = D and y
= A for a = 0, y = inM for a = 1, arithmetic modulo 2^16: c=010000: ~x & y; c=010001: x | ~y; c=010010: y - x - 1;
c=010011: x - y; c=010100: ~(x | y); c=010101: x | y; c=010110: -x - y - 2; c=010111: x + y + 1. Its jump is taken on
the sign of that result, its destinations take it, and everything else is as before. The closed forms are the spec's
own derivation from the ALU definition ("Every closed form below is derived from the ALU definition").
(44_compute_functions.md, c = 010000 to 010111, 41_arithmetic_alu.md §2) -/
def Obligations.ResultsBothOperandsXComplemented : Prop :=
  ∀ (s : State) (dest : Dest) (jump : Jump),
    Computes (.c0010000 dest jump) s (~~~s.D &&& s.A) dest jump ∧
    Computes (.c1010000 dest jump) s (~~~s.D &&& s.inM) dest jump ∧
    Computes (.c0010001 dest jump) s (s.D ||| ~~~s.A) dest jump ∧
    Computes (.c1010001 dest jump) s (s.D ||| ~~~s.inM) dest jump ∧
    Computes (.c0010010 dest jump) s (s.A - s.D - 1#16) dest jump ∧
    Computes (.c1010010 dest jump) s (s.inM - s.D - 1#16) dest jump ∧
    Computes (.dMinusA dest jump) s (s.D - s.A) dest jump ∧
    Computes (.dMinusM dest jump) s (s.D - s.inM) dest jump ∧
    Computes (.c0010100 dest jump) s (~~~(s.D ||| s.A)) dest jump ∧
    Computes (.c1010100 dest jump) s (~~~(s.D ||| s.inM)) dest jump ∧
    Computes (.dOrA dest jump) s (s.D ||| s.A) dest jump ∧
    Computes (.dOrM dest jump) s (s.D ||| s.inM) dest jump ∧
    Computes (.c0010110 dest jump) s (-s.D - s.A - 2#16) dest jump ∧
    Computes (.c1010110 dest jump) s (-s.D - s.inM - 2#16) dest jump ∧
    Computes (.c0010111 dest jump) s (s.D + s.A + 1#16) dest jump ∧
    Computes (.c1010111 dest jump) s (s.D + s.inM + 1#16) dest jump

/-- For every state, destination and jump, each of these compute instructions completes with the result given, x = D and y
= A for a = 0, y = inM for a = 1, arithmetic modulo 2^16: c=011000: 0; c=011001: -1; c=011010: ~x; c=011011: x;
c=011100: ~x; c=011101: x; c=011110: -x - 2; c=011111: x + 1. Its jump is taken on the sign of that result, its
destinations take it, and everything else is as before. The closed forms are the spec's own derivation from the ALU
definition ("Every closed form below is derived from the ALU definition"). (44_compute_functions.md, c = 011000 to
011111, 41_arithmetic_alu.md §2) -/
def Obligations.ResultsXOnlyComplemented : Prop :=
  ∀ (s : State) (dest : Dest) (jump : Jump),
    Computes (.c0011000 dest jump) s 0#16 dest jump ∧
    Computes (.c1011000 dest jump) s 0#16 dest jump ∧
    Computes (.c0011001 dest jump) s (-1#16) dest jump ∧
    Computes (.c1011001 dest jump) s (-1#16) dest jump ∧
    Computes (.c0011010 dest jump) s (~~~s.D) dest jump ∧
    Computes (.c1011010 dest jump) s (~~~s.D) dest jump ∧
    Computes (.c0011011 dest jump) s s.D dest jump ∧
    Computes (.c1011011 dest jump) s s.D dest jump ∧
    Computes (.c0011100 dest jump) s (~~~s.D) dest jump ∧
    Computes (.c1011100 dest jump) s (~~~s.D) dest jump ∧
    Computes (.c0011101 dest jump) s s.D dest jump ∧
    Computes (.c1011101 dest jump) s s.D dest jump ∧
    Computes (.c0011110 dest jump) s (-s.D - 2#16) dest jump ∧
    Computes (.c1011110 dest jump) s (-s.D - 2#16) dest jump ∧
    Computes (.dPlus1 dest jump) s (s.D + 1#16) dest jump ∧
    Computes (.c1011111 dest jump) s (s.D + 1#16) dest jump

/-- For every state, destination and jump, each of these compute instructions completes with the result given, x = D and y
= A for a = 0, y = inM for a = 1, arithmetic modulo 2^16: c=100000: 0; c=100001: -1; c=100010: y; c=100011: ~y;
c=100100: 0; c=100101: -1; c=100110: ~y; c=100111: y. Its jump is taken on the sign of that result, its destinations
take it, and everything else is as before. The closed forms are the spec's own derivation from the ALU definition
("Every closed form below is derived from the ALU definition"). (44_compute_functions.md, c = 100000 to 100111,
41_arithmetic_alu.md §2) -/
def Obligations.ResultsYOnlyXZeroed : Prop :=
  ∀ (s : State) (dest : Dest) (jump : Jump),
    Computes (.c0100000 dest jump) s 0#16 dest jump ∧
    Computes (.c1100000 dest jump) s 0#16 dest jump ∧
    Computes (.c0100001 dest jump) s (-1#16) dest jump ∧
    Computes (.c1100001 dest jump) s (-1#16) dest jump ∧
    Computes (.c0100010 dest jump) s s.A dest jump ∧
    Computes (.c1100010 dest jump) s s.inM dest jump ∧
    Computes (.c0100011 dest jump) s (~~~s.A) dest jump ∧
    Computes (.c1100011 dest jump) s (~~~s.inM) dest jump ∧
    Computes (.c0100100 dest jump) s 0#16 dest jump ∧
    Computes (.c1100100 dest jump) s 0#16 dest jump ∧
    Computes (.c0100101 dest jump) s (-1#16) dest jump ∧
    Computes (.c1100101 dest jump) s (-1#16) dest jump ∧
    Computes (.c0100110 dest jump) s (~~~s.A) dest jump ∧
    Computes (.c1100110 dest jump) s (~~~s.inM) dest jump ∧
    Computes (.c0100111 dest jump) s s.A dest jump ∧
    Computes (.c1100111 dest jump) s s.inM dest jump

/-- For every state, destination and jump, each of these compute instructions completes with the result given, x = D and y
= A for a = 0, y = inM for a = 1, arithmetic modulo 2^16: c=101000: 0; c=101001: -1; c=101010: 0; c=101011: -1;
c=101100: 0; c=101101: -1; c=101110: -1; c=101111: 0. Its jump is taken on the sign of that result, its destinations
take it, and everything else is as before. The closed forms are the spec's own derivation from the ALU definition
("Every closed form below is derived from the ALU definition"). (44_compute_functions.md, c = 101000 to 101111,
41_arithmetic_alu.md §2) -/
def Obligations.ResultsConstantsXZeroed : Prop :=
  ∀ (s : State) (dest : Dest) (jump : Jump),
    Computes (.c0101000 dest jump) s 0#16 dest jump ∧
    Computes (.c1101000 dest jump) s 0#16 dest jump ∧
    Computes (.c0101001 dest jump) s (-1#16) dest jump ∧
    Computes (.c1101001 dest jump) s (-1#16) dest jump ∧
    Computes (.zero dest jump) s 0#16 dest jump ∧
    Computes (.c1101010 dest jump) s 0#16 dest jump ∧
    Computes (.c0101011 dest jump) s (-1#16) dest jump ∧
    Computes (.c1101011 dest jump) s (-1#16) dest jump ∧
    Computes (.c0101100 dest jump) s 0#16 dest jump ∧
    Computes (.c1101100 dest jump) s 0#16 dest jump ∧
    Computes (.c0101101 dest jump) s (-1#16) dest jump ∧
    Computes (.c1101101 dest jump) s (-1#16) dest jump ∧
    Computes (.c0101110 dest jump) s (-1#16) dest jump ∧
    Computes (.c1101110 dest jump) s (-1#16) dest jump ∧
    Computes (.c0101111 dest jump) s 0#16 dest jump ∧
    Computes (.c1101111 dest jump) s 0#16 dest jump

/-- For every state, destination and jump, each of these compute instructions completes with the result given, x = D and y
= A for a = 0, y = inM for a = 1, arithmetic modulo 2^16: c=110000: y; c=110001: ~y; c=110010: y - 1; c=110011: -y;
c=110100: ~y; c=110101: y; c=110110: -y - 2; c=110111: y + 1. Its jump is taken on the sign of that result, its
destinations take it, and everything else is as before. The closed forms are the spec's own derivation from the ALU
definition ("Every closed form below is derived from the ALU definition"). (44_compute_functions.md, c = 110000 to
110111, 41_arithmetic_alu.md §2) -/
def Obligations.ResultsYOnlyXOnes : Prop :=
  ∀ (s : State) (dest : Dest) (jump : Jump),
    Computes (.compA dest jump) s s.A dest jump ∧
    Computes (.compM dest jump) s s.inM dest jump ∧
    Computes (.notA dest jump) s (~~~s.A) dest jump ∧
    Computes (.notM dest jump) s (~~~s.inM) dest jump ∧
    Computes (.aMinus1 dest jump) s (s.A - 1#16) dest jump ∧
    Computes (.mMinus1 dest jump) s (s.inM - 1#16) dest jump ∧
    Computes (.negA dest jump) s (-s.A) dest jump ∧
    Computes (.negM dest jump) s (-s.inM) dest jump ∧
    Computes (.c0110100 dest jump) s (~~~s.A) dest jump ∧
    Computes (.c1110100 dest jump) s (~~~s.inM) dest jump ∧
    Computes (.c0110101 dest jump) s s.A dest jump ∧
    Computes (.c1110101 dest jump) s s.inM dest jump ∧
    Computes (.c0110110 dest jump) s (-s.A - 2#16) dest jump ∧
    Computes (.c1110110 dest jump) s (-s.inM - 2#16) dest jump ∧
    Computes (.aPlus1 dest jump) s (s.A + 1#16) dest jump ∧
    Computes (.mPlus1 dest jump) s (s.inM + 1#16) dest jump

/-- For every state, destination and jump, each of these compute instructions completes with the result given, x = D and y
= A for a = 0, y = inM for a = 1, arithmetic modulo 2^16: c=111000: 0; c=111001: -1; c=111010: -1; c=111011: 0;
c=111100: -1; c=111101: 0; c=111110: -2; c=111111: 1. Its jump is taken on the sign of that result, its destinations
take it, and everything else is as before. The closed forms are the spec's own derivation from the ALU definition
("Every closed form below is derived from the ALU definition"). (44_compute_functions.md, c = 111000 to 111111,
41_arithmetic_alu.md §2) -/
def Obligations.ResultsConstantsXOnes : Prop :=
  ∀ (s : State) (dest : Dest) (jump : Jump),
    Computes (.c0111000 dest jump) s 0#16 dest jump ∧
    Computes (.c1111000 dest jump) s 0#16 dest jump ∧
    Computes (.c0111001 dest jump) s (-1#16) dest jump ∧
    Computes (.c1111001 dest jump) s (-1#16) dest jump ∧
    Computes (.minus1 dest jump) s (-1#16) dest jump ∧
    Computes (.c1111010 dest jump) s (-1#16) dest jump ∧
    Computes (.c0111011 dest jump) s 0#16 dest jump ∧
    Computes (.c1111011 dest jump) s 0#16 dest jump ∧
    Computes (.c0111100 dest jump) s (-1#16) dest jump ∧
    Computes (.c1111100 dest jump) s (-1#16) dest jump ∧
    Computes (.c0111101 dest jump) s 0#16 dest jump ∧
    Computes (.c1111101 dest jump) s 0#16 dest jump ∧
    Computes (.c0111110 dest jump) s (-2#16) dest jump ∧
    Computes (.c1111110 dest jump) s (-2#16) dest jump ∧
    Computes (.one dest jump) s 1#16 dest jump ∧
    Computes (.c1111111 dest jump) s 1#16 dest jump

/-- For every compute instruction and every state whose reset input is low: it completes with PC the old A when the signed
result meets the condition of its jump field (never; > 0; = 0; >= 0; < 0; != 0; <= 0; always), and with PC + 1
otherwise. The places of the conditions in the jump field are decision D6 (log entry 12). (R220, R221, R222, R223,
R224, R225, R226, R227) -/
def Obligations.JumpConditionsReadTheSignOfTheResult : Prop :=
  ∀ (i : Instr) (src : SrcY) (c : BitVec 6) (dest : Dest) (jump : Jump) (s : State),
    i.shape = .comp src c dest jump → resetNow s = false →
    let out := (aluOf c s.D (match src with
      | .regA => s.A
      | .inM => s.inM)).out
    let taken : Prop := match jump with
      | .never => False
      | .jgt => 1 ≤ out.toInt ∧ out.toInt ≤ 32767
      | .jeq => out = 0x0000#16
      | .jge => 0 ≤ out.toInt ∧ out.toInt ≤ 32767
      | .jlt => -32768 ≤ out.toInt ∧ out.toInt ≤ -1
      | .jne => out ≠ 0x0000#16
      | .jle => -32768 ≤ out.toInt ∧ out.toInt ≤ 0
      | .jmp => True
    ∃ t, exec i s = .next t ∧ (taken → t.PC = s.A) ∧ (¬ taken → t.PC = s.PC + 1#16)

/-- For every compute instruction whose destination field selects A and M, and every state s: it completes with A = out;
if out[14:0] is an address of RAM or display the word there is out; and if the old A[14:0] is an address of RAM or
display other than that one, the word there is as before. The spec marks this order of operations as decision D24 (log
entry 17). (70_reset_and_hazards.md §4, 43_cpu_instructions.md §2, 92_eei_decisions.md D24) -/
def Obligations.StoreWithAGoesToTheNewAddress : Prop :=
  ∀ (i : Instr) (src : SrcY) (c : BitVec 6) (dest : Dest) (jump : Jump) (s : State),
    i.shape = .comp src c dest jump → dest.a = true → dest.m = true →
    ∃ t out, exec i s = .next t ∧ out = (aluOf c s.D (operandY src s)).out ∧ t.A = out ∧
      ((low15 out).toNat < 24576 → memRead t (low15 out) = out) ∧
      ((low15 s.A).toNat < 24576 → low15 s.A ≠ low15 out → memRead t (low15 s.A) = memRead s (low15 s.A))

/-- For every compute instruction that selects A, every one of its jump conditions, and every state whose reset input is
low: if the condition holds of the signed result (> 0; = 0; >= 0; < 0; != 0; <= 0; always), it completes with PC the
old A, the fetch address the low 15 bits of the old A, and A the result. The places of the conditions in the jump
field are decision D6 (log entry 12). (43_cpu_instructions.md §3, §5, 70_reset_and_hazards.md §4, 92_eei_decisions.md
D6) -/
def Obligations.TakenJumpGoesToTheOldA : Prop :=
  ∀ (i : Instr) (src : SrcY) (c : BitVec 6) (dest : Dest) (jump : Jump) (s : State),
    i.shape = .comp src c dest jump → dest.a = true → resetNow s = false →
    let out := (aluOf c s.D (operandY src s)).out
    jumpsOn jump out = true →
    ∃ t, exec i s = .next t ∧ t.PC = s.A ∧ t.pc = low15 s.A ∧ t.A = out

/-- For every compute instruction and every state where the address after the instruction is 24576 or above: it completes,
RAM and display are unchanged whether or not a memory write is requested, and A, D and PC take their values as for any
compute instruction. That such a write changes nothing is decisions D10 and D11. (20_memory.md §2, §4,
92_eei_decisions.md D10, D11) -/
def Obligations.StoreAboveTheDisplayChangesNoWord : Prop :=
  ∀ (i : Instr) (src : SrcY) (c : BitVec 6) (dest : Dest) (jump : Jump) (s : State),
    i.shape = .comp src c dest jump →
    let r := aluOf c s.D (operandY src s)
    24576 ≤ (low15 (if dest.a then r.out else s.A)).toNat →
    ∃ t, exec i s = .next t ∧ t.ram = s.ram ∧ t.screen = s.screen ∧
      t.A = (if dest.a then r.out else s.A) ∧ t.D = (if dest.d then r.out else s.D) ∧
      t.PC = (if resetNow s then 0x0000#16 else if jumpsOn jump r.out then s.A else s.PC + 1#16)

/-- For every instruction that does not take inM as its operand (load-address, and the compute instructions with a = 0),
every state s and every word: executing it in s with that word as the carried inM has the same outcome, in every part
of the state, as executing it in s. (43_cpu_instructions.md §1, 10_state.md §4) -/
def Obligations.CarriedWordMattersOnlyToM : Prop :=
  ∀ (i : Instr) (s : State) (w : Word), (∀ c dest jump, i.shape ≠ .comp .inM c dest jump) →
    exec i { s with inM := w } = exec i s

/-- For every instruction, every state s and every word on the keyboard: the two outcomes of executing the instruction
with the keyboard as it is and with that word agree on A, D, PC, the carried addresses, RAM, display, instruction
store and Clocks, and on inM too unless the new data address is 24576, where inM is the keyboard word. That inM at
24577 to 32767 does not follow the keyboard word is the model's choice (log entry 10): the spec leaves the parameter
HIGH_READ open there and permits the keyboard word as its value (R53, decision D10). (20_memory.md §2, §4,
60_exceptions.md §4, 92_eei_decisions.md D10) -/
def Obligations.KeyboardReachesOnlyTheNextOperand : Prop :=
  ∀ (i : Instr) (s : State) (w : Word), ∃ t u, exec i s = .next t ∧ exec i { s with keyboard := w } = .next u ∧
    u.A = t.A ∧ u.D = t.D ∧ u.PC = t.PC ∧ u.pc = t.pc ∧ u.addressM = t.addressM ∧ u.ram = t.ram ∧ u.screen = t.screen ∧
    u.rom = t.rom ∧ u.cpuClock = t.cpuClock ∧ u.extClock = t.extClock ∧
    (t.addressM.toNat ≠ 24576 → u.inM = t.inM) ∧ (t.addressM.toNat = 24576 → t.inM = s.keyboard ∧ u.inM = w)

/-- For every state s that steps to t, with o the outputs (outM, writeM, addressM, pc) read off the fetched word: t
carries o's addressM and pc; if writeM is high the RAM or display word at addressM is outM and every other word is as
before; if it is low every word is as before. That outM is the ALU output is decision D22 (log entry 20).
(43_cpu_instructions.md §1, §2, 45_computer_step.md §4, 92_eei_decisions.md D22) -/
def Obligations.PortsAgreeWithTheStep : Prop :=
  ∀ s t : State, step s = .next t →
    let o := ports (fetchWord s) s
    t.addressM = o.addressM ∧ t.pc = o.pc ∧ (if o.writeM then DataStored s t o.addressM o.outM else DataKept s t)

/-- For every state s: stepping it with reset low answers some state t, and stepping it with reset high answers t with PC
= 0 and the fetch address 0 and every other part exactly as in t, so the instruction executes in full and the next
step fetches address 0. (R433) -/
def Obligations.ResetInputReachesOnlyTheProgramCounter : Prop :=
  ∀ s : State, ∃ t, step (s.withReset false) = .next t ∧
    step (s.withReset true) = .next { t with PC := 0x0000#16, pc := 0#15 }

/-- For every k >= 1 and every state whose next k reset inputs are all high: the machine runs k steps and PC and the fetch
address are then 0. That reset is one free input value a step is decision D15 (log entry 8). (70_reset_and_hazards.md
§2, 92_eei_decisions.md D15) -/
def Obligations.HeldResetKeepsPCAtZero : Prop :=
  ∀ (k : Nat) (s : State), 0 < k → s.resetIn.take k = List.replicate k true →
    ∃ t, core.run k s = .next t ∧ t.PC = 0x0000#16 ∧ t.pc = 0#15

/-- State.reset has PC = 0; by the spec's decisions D4, D5, D17 and D20 (log entries 3 to 6) A = D = inM = 0, both carried
addresses 0, both Clocks 0, every data word and every instruction-store word 0x0000; by the model's choice (log
entries 8, 9 and 11) the keyboard word is 0, no input is waiting and the step number is 0. (10_state.md §10,
70_reset_and_hazards.md §1, 92_eei_decisions.md D4, D5, D17, D20) -/
def Obligations.LaunchStateIsTheSpecsTable : Prop :=
  State.reset.PC = 0x0000#16 ∧ State.reset.A = 0x0000#16 ∧ State.reset.D = 0x0000#16 ∧ State.reset.inM = 0x0000#16 ∧
  State.reset.pc = 0#15 ∧ State.reset.addressM = 0#15 ∧ State.reset.cpuClock = 0 ∧ State.reset.extClock = 0 ∧
  (∀ addr : Addr, addr.toNat < 24576 → memRead State.reset addr = 0x0000#16) ∧
  (∀ addr : Addr, romRead State.reset addr = 0x0000#16) ∧
  State.reset.keyboard = 0x0000#16 ∧ State.reset.resetIn = [] ∧ State.reset.keyIn = [] ∧ State.reset.t = 0

/-- For every program, launch contents and inputs: the launch state has PC = 0 and the word its first step fetches is the
one at instruction address 0. (R430) -/
def Obligations.ExecutionStartsAtAddressZero : Prop :=
  ∀ (rom : Memory) (ramInit screenInit : List Word) (resetIn : List Signal) (key : Word) (keyIn : List Word),
    let s := State.launch rom ramInit screenInit resetIn key keyIn
    s.PC = 0x0000#16 ∧ s.pc = 0#15 ∧ fetchWord s = rom.read 0 ∧ step s = exec (decodeWord (rom.read 0)) s

/-- State.reset meets the invariant (canonical stores, carried addresses the low 15 bits of PC and A, both Clocks equal to
the step number) and the condition on the carried inM. (10_state.md §4, §10, 45_computer_step.md §3) -/
def Obligations.InvariantHoldsAtReset : Prop :=
  State.reset.Inv ∧ State.reset.InMCurrent

/-- From every state that meets the invariant, whatever instruction is fetched and whatever the inputs, a step that
answers a next state answers one that meets it: the RAM, display and instruction store stay in canonical form within
their sizes, the carried pc and addressM are PC[14:0] and A[14:0], and both Clocks equal the step number. (10_state.md
§4, 45_computer_step.md §3, 20_memory.md §2) -/
def Obligations.EveryStepKeepsTheInvariant : Prop :=
  ∀ s t : State, s.Inv → step s = .next t → t.Inv

/-- For every state s that steps to t, if the data address t carries is one of RAM or display, t's inM is the word t reads
there, and t carries A[14:0]; in particular a value stored by the step itself is seen. That inM starts all-low is
decision D5; this statement does not use it. (10_state.md §4, 45_computer_step.md §2, §5) -/
def Obligations.CarriedWordIsCurrentAfterEveryStep : Prop :=
  ∀ s t : State, step s = .next t →
    t.InMCurrent ∧ (t.addressM.toNat < 24576 → t.inM = memRead t (low15 t.A))

/-- For every k and every state s whose run of k steps ends in t: the CPU Clock, the external Clock and the step number of
t are those of s plus k; from reset both Clocks then read k (the spec's launch value 0 is decision D4, log entry 6).
(45_computer_step.md §1, §3) -/
def Obligations.EachClockAdvancesOncePerStep : Prop :=
  (∀ (k : Nat) (s t : State), core.run k s = .next t →
    t.cpuClock = s.cpuClock + k ∧ t.extClock = s.extClock + k ∧ t.t = s.t + k) ∧
  ∀ (k : Nat), ∃ t, core.run k State.reset = .next t ∧ t.cpuClock = k ∧ t.extClock = k

/-- For every k and every state s whose run of k steps ends in t: the instruction store of t is that of s, and every
address of it reads the same. (R75) -/
def Obligations.InstructionStoreNeverChanges : Prop :=
  ∀ (k : Nat) (s t : State), core.run k s = .next t → t.rom = s.rom ∧ ∀ addr : Addr, romRead t addr = romRead s addr

/-- For every state s that steps to t and every RAM or display address whose word differs between s and t: the fetched
instruction is a compute instruction with M among its destinations, the address is A[14:0] after the instruction, and
the new word is the result. (10_state.md §5, 20_memory.md §5) -/
def Obligations.OnlyAMemoryDestinationChangesAWord : Prop :=
  ∀ (s t : State) (addr : Addr), step s = .next t → addr.toNat < 24576 → memRead t addr ≠ memRead s addr →
    ∃ src c dest jump, (decodeWord (fetchWord s)).shape = .comp src c dest jump ∧ dest.m = true ∧ addr = low15 t.A ∧
      memRead t addr = (aluOf c s.D (operandY src s)).out

/-- For every state and every 15-bit address: 0 to 16383 reads the RAM word of that number; 16384 to 24575 the display
word of that number less 16384; 24576 the keyboard word of the step; above that the free value HIGH_READ of the
address and the step. (R61) -/
def Obligations.MemReadFollowsTheMap : Prop :=
  ∀ (s : State) (addr : Addr),
    (addr.toNat ≤ 16383 → memRead s addr = s.ram.read addr.toNat) ∧
    (16384 ≤ addr.toNat → addr.toNat ≤ 24575 → memRead s addr = s.screen.read (addr.toNat - 16384)) ∧
    (addr.toNat = 24576 → memRead s addr = s.keyboard) ∧
    (24577 ≤ addr.toNat → memRead s addr = Config.highRead addr s.t)

/-- For every state, 15-bit address and word: a write at 0 to 16383 sets that RAM word, at 16384 to 24575 the display word
of the address less 16384, all 16 bits; every other word and every other part of the state is as before; at 24576 and
above the state does not change. (R62) -/
def Obligations.MemWriteFollowsTheMap : Prop :=
  ∀ (s : State) (addr : Addr) (v : Word),
    (addr.toNat ≤ 16383 → ∃ m, memWrite s addr v = { s with ram := m } ∧
      ∀ k, m.read k = if k = addr.toNat then v else s.ram.read k) ∧
    (16384 ≤ addr.toNat → addr.toNat ≤ 24575 → ∃ m, memWrite s addr v = { s with screen := m } ∧
      ∀ k, m.read k = if k = addr.toNat - 16384 then v else s.screen.read k) ∧
    (24576 ≤ addr.toNat → memWrite s addr v = s)

/-- For every load-address instruction, and every compute instruction without a jump, in every state that carries the low
bits of PC and whose reset input is low: it completes, PC is PC + 1 modulo 65536 and the fetch address is the next one
modulo 32768. (10_state.md §3, 70_reset_and_hazards.md §4) -/
def Obligations.FetchAddressWraps : Prop :=
  ∀ (i : Instr) (s : State), (∀ src c dest jump, i.shape = .comp src c dest jump → jump = .never) →
    s.pc = low15 s.PC → resetNow s = false →
    ∃ t, exec i s = .next t ∧ t.PC = s.PC + 1#16 ∧ t.pc.toNat = (s.pc.toNat + 1) % 32768

/-- For all signals a and b: nand is low exactly when both are high, and not, and, or, xor, each built from nand as the
document derives it, are the complement, the conjunction, the disjunction and the inequality. (R111, R112, R113, R114,
R115) -/
def Obligations.SingleSignalGatesMatchTheirTables : Prop :=
  ∀ a b : Signal, Gate.nand a b = !(a && b) ∧ Gate.not a = !a ∧ Gate.and a b = (a && b) ∧ Gate.or a b = (a || b) ∧
    Gate.xor a b = (a != b)

/-- For all words v, w and every select signal: not16, and16, or16 built from one gate per position are the bitwise
complement, and, or; mux16 is v when the select is low and w when it is high. (R118, R119, R120, R121) -/
def Obligations.WordGatesActBitByBit : Prop :=
  ∀ (v w : Word) (sel : Signal), Gate.not16 w = ~~~w ∧ Gate.and16 v w = v &&& w ∧ Gate.or16 v w = v ||| w ∧
    Gate.mux16 v w sel = if sel then w else v

/-- For all inputs: mux gives its first input when the select is low and its second when it is high, demux the converse;
mux4way16 and mux8way16 give the input whose index is the selector's value; demux4way and demux8way give the signal on
the output of that index and low elsewhere; or8way is high iff one of its eight signals is. The netlists and the
selector order are decisions D9 and D8 (log entry 18). (40_signal_algebra.md §2, §4, 92_eei_decisions.md D8, D9) -/
def Obligations.SelectorsPickTheirIndex : Prop :=
  (∀ a b sel : Signal, Gate.mux a b sel = (if sel then b else a)) ∧
  (∀ inp sel : Signal, Gate.demux inp sel = (if sel then (false, inp) else (inp, false))) ∧
  (∀ (w : Fin 4 → Word) (sel : BitVec 2), Gate.mux4way16 (w 0) (w 1) (w 2) (w 3) sel = w sel.toFin) ∧
  (∀ (w : Fin 8 → Word) (sel : BitVec 3), Gate.mux8way16 w sel = w sel.toFin) ∧
  (∀ (inp : Signal) (sel : BitVec 2) (k : Fin 4), Gate.demux4way inp sel k = (inp && decide (k = sel.toFin))) ∧
  (∀ (inp : Signal) (sel : BitVec 3) (k : Fin 8), Gate.demux8way inp sel k = (inp && decide (k = sel.toFin))) ∧
  (∀ (f : Nat → Signal) (lo : Nat), Gate.or8way f lo = true ↔ ∃ k < 8, f (lo + k) = true)

/-- For all words v, w: add16 built from the adders is v + w modulo 2^16, so it is commutative and its unsigned value is
the sum modulo 65536, and inc16 adds one. For all signals: twice the carry plus the sum of a half adder or full adder
is the sum of its inputs. The arithmetic law is the spec's own derivation (41_arithmetic_alu.md §1).
(41_arithmetic_alu.md §1) -/
def Obligations.RippleAdderIsAddition : Prop :=
  (∀ v w : Word, Gate.add16 v w = v + w ∧ Gate.add16 v w = Gate.add16 w v ∧
    (Gate.add16 v w).toNat = (v.toNat + w.toNat) % 65536 ∧ Gate.inc16 w = w + 1#16) ∧
  (∀ a b : Signal, 2 * (Gate.halfAdder a b).2.toNat + (Gate.halfAdder a b).1.toNat = a.toNat + b.toNat) ∧
  (∀ a b c : Signal, 2 * (Gate.fullAdder a b c).2.toNat + (Gate.fullAdder a b c).1.toNat = a.toNat + b.toNat + c.toNat)

/-- For all words x, y and all 64 settings of the six controls: the output of the ALU built from gates is the one of the
stages in their order (zero x, complement x, the same for y, and16 or add16, complement), zr is high iff that output
is zero, ng is its bit 15, and the word-level ALU that the instructions use gives the same. (R146, R148, R149) -/
def Obligations.GateAluIsTheStagedFunction : Prop :=
  ∀ (x y : Word) (zx nx zy ny f no : Signal),
    let x1 := if zx then 0x0000#16 else x
    let x2 := if nx then ~~~x1 else x1
    let y1 := if zy then 0x0000#16 else y
    let y2 := if ny then ~~~y1 else y1
    let r := if f then x2 + y2 else x2 &&& y2
    let out := if no then ~~~r else r
    Gate.alu x y zx nx zy ny f no = { out := out, zr := decide (out = 0x0000#16), ng := out.getLsbD 15 } ∧
    alu x y zx nx zy ny f no = Gate.alu x y zx nx zy ny f no ∧
    ((Gate.alu x y zx nx zy ny f no).ng = true ↔ out.toInt < 0) ∧
    ((Gate.alu x y zx nx zy ny f no).zr = false ∧ (Gate.alu x y zx nx zy ny f no).ng = false ↔ 0 < out.toInt)

/-- For every cell, Clock and value: after a write in a cycle every read of that cycle, and any number of them, gives the
value from before the write; after one advance it gives the written value; after two or more advances without another
write it gives low. (R174) -/
def Obligations.CellReadsAsAnEdgeTriggeredBit : Prop :=
  ∀ (c : Cell) (clk : Clock) (v : Signal),
    (c.write clk v).read clk = c.read clk ∧
    (c.write clk v).read clk.advance = v ∧
    ∀ n, 2 ≤ n → (c.write clk v).read { count := clk.count + n } = false

/-- For every cell, every Clock and every sequence of writes in one cycle: the visible value stays the one before them;
after the edge it is the last one written; a cell not written in the cycle is low after the edge if it meets the
invariant of rule R162. The visible value is the reading of decision D3 (log entry 19). (42_clock_and_storage.md §2,
92_eei_decisions.md D3) -/
def Obligations.CellWritesOfACycle : Prop :=
  ∀ (c : Cell) (clk : Clock) (vs : List Signal),
    (vs.foldl (fun (c : Cell) v => c.write clk v) c).read clk = c.read clk ∧
    (∀ v, ((vs ++ [v]).foldl (fun (c : Cell) v => c.write clk v) c).read clk.advance = v) ∧
    (c.nextTime ≤ clk.now → c.read clk.advance = false)

/-- For every cell that meets the invariant of rule R162 beside its Clock: reading, writing and advancing it are reading,
writing and advancing its abstract cell, writing and advancing keep the invariant, and a cell at launch beside a Clock
at 0 shows its launch bit with nothing pending. The abstract cell is the spec's own derivation
(42_clock_and_storage.md §2). (42_clock_and_storage.md §2) -/
def Obligations.CellSimulatesTheAbstractCell : Prop :=
  (∀ (c : Cell) (clk : Clock) (v : Signal), c.timely clk →
    c.read clk = (c.abstract clk).read ∧ (c.write clk v).abstract clk = (c.abstract clk).write v ∧
    c.abstract clk.advance = (c.abstract clk).advance ∧ (c.write clk v).timely clk ∧ c.timely clk.advance) ∧
  ∀ b : Signal, (Cell.launch b).abstract { count := 0 } = { v := b, p := none }

/-- For every register and Clock, every load signal and word: apply returns the visible word and leaves it visible in the
cycle; after the edge the register shows the word if load was high and its old word otherwise; of two applies in one
cycle the second decides; and no cell is stale afterwards. The register-level law is the spec's own derivation
(42_clock_and_storage.md §3). (42_clock_and_storage.md §3) -/
def Obligations.RegisterHoldsUnlessLoaded : Prop :=
  ∀ (r : Register) (clk : Clock) (load load' : Signal) (w w' : Word),
    (r.apply clk load w).1 = r.read clk ∧ (r.apply clk load w).2.read clk = r.read clk ∧
    (r.apply clk load w).2.read clk.advance = (if load then w else r.read clk) ∧
    ((r.apply clk load w).2.apply clk load' w').2.read clk.advance = (if load' then w' else r.read clk) ∧
    (r.apply clk load w).2.live clk ∧ (r.apply clk load w).2.live clk.advance

/-- For every register driven as a program counter, with any input word and controls: apply returns the visible value from
before the edge; after the edge it shows 0 under reset, else the input word under load, else its old value plus one
under inc, else its old value. (R185) -/
def Obligations.ProgramCounterPriority : Prop :=
  ∀ (r : Register) (clk : Clock) (inWord : Word) (load inc reset : Signal),
    let p := r.pcApply clk inWord load inc reset
    p.1 = r.read clk ∧
    p.2.read clk.advance =
      (if reset then 0x0000#16 else if load then inWord else if inc then r.read clk + 1#16 else r.read clk)

/-- For every depth n, every bank of 8^n words, every Clock, word, load signal and address: apply returns the visible word
at the address and leaves every word visible in the cycle; after the edge the word at the address is the input word if
load was high, and every other word is as before; no cell is stale afterwards. So a word written with load high is
read at its address after one advance, and reading at any other address gives the prior contents. Which child of a
bank a selector value picks is decision D8 (log entry 18). (R183) -/
def Obligations.BankOfAnySizeIsAnArray : Prop :=
  ∀ (n : Nat) (b : Bank n) (clk : Clock) (inWord : Word) (load : Signal) (addr : BitVec (3 * n)),
    let p := Bank.apply n b clk inWord load addr
    p.1 = Bank.word n b clk addr ∧
    (∀ k, Bank.word n p.2 clk k = Bank.word n b clk k) ∧
    (∀ k, Bank.word n p.2 clk.advance k = if load = true ∧ k = addr then inWord else Bank.word n b clk k) ∧
    (∀ k inWord', (Bank.apply n p.2 clk.advance inWord' false k).1 =
      if load = true ∧ k = addr then inWord else Bank.word n b clk k) ∧
    Bank.live n p.2 clk ∧ Bank.live n p.2 clk.advance

/-- For every content of the RAM, every Clock, word, load signal and 14-bit address: apply returns the visible word at the
address; after the edge the word at the address is the input word if load was high and every other word is as before;
no cell is stale afterwards; and a RAM at launch shows its launch words. Which child a selector picks is decision D8
(log entry 18). (42_clock_and_storage.md §4, 20_memory.md §3, 92_eei_decisions.md D8) -/
def Obligations.RamOf16384WordsIsAnArray : Prop :=
  (∀ (b : Ram16K) (clk : Clock) (inWord : Word) (load : Signal) (addr : BitVec 14),
    let p := b.apply clk inWord load addr
    p.1 = b.word clk addr ∧
    (∀ k, p.2.word clk k = b.word clk k) ∧
    (∀ k, p.2.word clk.advance k = if load = true ∧ k = addr then inWord else b.word clk k) ∧
    p.2.live clk ∧ p.2.live clk.advance) ∧
  ∀ (init : BitVec 14 → Word) (k : BitVec 14),
    (Ram16K.launch init).word { count := 0 } k = init k ∧ (Ram16K.launch init).live { count := 0 }

/-- For every depth n, every bank of 8^n words none of whose cells is stale, every Clock and every m of at least 2: after
m advances without any drive every word of the bank is 0x0000. For n = 0 this is a register of the CPU.
(70_reset_and_hazards.md §5, 42_clock_and_storage.md §2, §4) -/
def Obligations.UndrivenBankReadsLow : Prop :=
  ∀ (n : Nat) (b : Bank n) (clk : Clock) (m : Nat) (addr : BitVec (3 * n)), Bank.live n b clk → 2 ≤ m →
    Bank.word n b { count := clk.count + m } addr = 0x0000#16

/-- Whenever a cell-level machine represents a register-level state s (every cell live and showing the bits of s, equal
Clocks, carried values and instruction store, no display write pending), one step of the cell-level machine with the
reset, keyboard and open values of s, through the CPU cycle line by line and the whole bank hierarchy, gives outputs
equal to the ports of s and a machine that represents the state step s answers. The spec gives this equivalence as its
own derivation (45_computer_step.md §4). (45_computer_step.md §2, §4, 42_clock_and_storage.md §2,
43_cpu_instructions.md §1) -/
def Obligations.CellComputerRefinesTheStep : Prop :=
  ∀ (c : CellComputer) (s : State), Represents c s →
    ∃ t, step s = .next t ∧
      let r := c.step (resetNow s) s.keyboard (fun addr => Config.highRead addr s.t)
      Represents r.2 t ∧ r.1 = ports (fetchWord s) s

/-- For every program, launch contents of RAM and display and inputs: the cell-level machine at launch, each RAM cell
holding its launch bit, represents the launch state. The launch values of cells are decision D4 of the spec (log
entries 1 and 4). (10_state.md §10, 70_reset_and_hazards.md §1, 92_eei_decisions.md D4) -/
def Obligations.CellLaunchRepresentsTheLaunchState : Prop :=
  ∀ (rom : Memory) (ramInit screenInit : List Word) (resetIn : List Signal) (key : Word) (keyIn : List Word),
    let s := State.launch rom ramInit screenInit resetIn key keyIn
    Represents (CellComputer.launch rom (fun a => s.ram.read a.toNat) s.screen) s

/-- For every source of the instruction store, launch contents and inputs: if the load succeeds, the launch answers a
state whose instruction store is the loaded one, with PC = 0, and which meets the invariant; if the load fails, the
launch fails with the same error; a source that cannot be read fails. The launch values of the Clocks are decision D4
(log entry 6). (70_reset_and_hazards.md §1, §3, 60_exceptions.md §1, 92_eei_decisions.md D4) -/
def Obligations.LaunchIsAllOrNothing : Prop :=
  ∀ (source : RomSource) (ramInit screenInit : List Word) (resetIn : List Signal) (key : Word) (keyIn : List Word),
    (∀ rom, loadRom source = .ok rom → ∃ s, launchFrom source ramInit screenInit resetIn key keyIn = .ok s ∧
      s.rom = rom ∧ s.PC = 0x0000#16 ∧ s.Inv) ∧
    (∀ e, loadRom source = .error e → launchFrom source ramInit screenInit resetIn key keyIn = .error e) ∧
    loadRom .unreadable = .error .ioFailure

/-- For every list of at most 32768 words: the plain textual source, one line of 16 characters for each word, most
significant bit first, and nothing else, loads; word k of the list is at address k and every other address reads
0x0000; the store is in canonical form. The same holds for every source of such word lines with any number of blank or
short lines before, between and after them, its last line with or without a line feed: a blank or short line takes no
address. A source of more words is refused. That a short line is skipped whatever its characters are, and where a line
ends, is log entry 15; unloaded words and overlong sources are decisions D17 and D21 (log entries 3 and 15).
(20_memory.md §6, 70_reset_and_hazards.md §3, 92_eei_decisions.md D17, D21) -/
def Obligations.TextualSourceLoadsItsWords : Prop :=
  (∀ words : List Word,
    (words.length ≤ 32768 → ∃ m, loadText (textOfWords words) = .ok m ∧
      m.wf Config.romWords = true ∧ ∀ k, m.read k = words.getD k 0x0000#16) ∧
    (32768 < words.length → loadText (textOfWords words) = .error .tooManyWords)) ∧
  ∀ (lines : List SourceLine) (source : List Char), (∀ line ∈ lines, line.wf = true) →
    (source = textOfLines lines ∨ source ++ ['\n'] = textOfLines lines) →
    let words := lines.filterMap SourceLine.word?
    (words.length ≤ 32768 → ∃ m, loadText source = .ok m ∧
      m.wf Config.romWords = true ∧ ∀ k, m.read k = words.getD k 0x0000#16) ∧
    (32768 < words.length → loadText source = .error .tooManyWords)

/-- For every source of word lines with any blank or short lines among them, every further line without a line feed in it,
and either the end of the source or a line feed and anything at all after it: if the line has more than 16 characters
the load answers the error longLine; if it has exactly 16 and one of them is neither 0 nor 1 it answers badCharacter.
That such sources are refused is decision D21; that the first line at fault names the error is the model's choice (log
entry 15). (20_memory.md §6, 92_eei_decisions.md D21) -/
def Obligations.MalformedTextIsRefusedWhole : Prop :=
  ∀ (before : List SourceLine) (line rest : List Char), (∀ l ∈ before, l.wf = true) → '\n' ∉ line →
    (rest = [] ∨ ∃ more, rest = '\n' :: more) →
    (16 < line.length → loadText (textOfLines before ++ line ++ rest) = .error .longLine) ∧
    (line.length = 16 → (∃ ch ∈ line, ch ≠ '0' ∧ ch ≠ '1') →
      loadText (textOfLines before ++ line ++ rest) = .error .badCharacter)

/-- For every list of at most 32768 words: the binary source with two bytes for each, in the order the open parameter
ROM_BIN_ORDER names, loads; word k of the list is at address k and every other address reads 0x0000. A source with an
odd number of bytes is refused. The framing is the model's choice among what decision D16 calls the natural family
(log entry 16). (20_memory.md §6, 92_eei_decisions.md D16) -/
def Obligations.BinarySourceLoadsItsWords : Prop :=
  (∀ words : List Word, words.length ≤ 32768 → ∃ m, loadBinary (bytesOfWords Config.romBinOrder words) = .ok m ∧
    ∀ k, m.read k = words.getD k 0x0000#16) ∧
  ∀ bytes : List (BitVec 8), bytes.length % 2 = 1 → loadBinary bytes = .error .oddBytes
end

