-- ==== Sys2Proof/Laws/Gates.lean ====
section
/-! SUPPORT. Words made from rows of bits. -/

namespace Sys2Proof.Machine

theorem bitsValue_lt (f : Nat → Signal) (n : Nat) : bitsValue f n < 2 ^ n := by
  induction n with
  | zero => simp [bitsValue]
  | succ n ih =>
    have : (f n).toNat ≤ 1 := Bool.toNat_le _
    rw [bitsValue, pow_succ]; nlinarith

theorem testBit_bitsValue (f : Nat → Signal) (n k : Nat) :
    (bitsValue f n).testBit k = (decide (k < n) && f k) := by
  induction n with
  | zero => simp [bitsValue]
  | succ n ih =>
    rw [bitsValue, Nat.add_comm, Nat.mul_comm, Nat.testBit_two_pow_mul_add _ (bitsValue_lt f n)]
    by_cases h : k < n
    · rw [if_pos h, ih]; simp [h, Nat.lt_succ_of_lt h]
    · rw [if_neg h]
      by_cases h2 : k = n
      · subst h2; simp; cases f k <;> rfl
      · have h3 : ¬ k < n + 1 := by omega
        simp only [h3, decide_false, Bool.false_and]
        cases f n
        · simp
        · simp; rw [← Nat.pow_zero 2, Nat.testBit_two_pow]; simp; omega

/-- Bit `k` of the word of a row of bits is the row's bit `k`. -/
theorem getLsbD_wordOfBits (f : Nat → Signal) (k : Nat) : (wordOfBits f).getLsbD k = (decide (k < 16) && f k) := by
  rw [wordOfBits, BitVec.getLsbD_ofNat, testBit_bitsValue]; cases decide (k < 16) <;> simp

end Sys2Proof.Machine
end

