-- ==== Sys2Proof/Laws/Cells.lean ====
section
/-! SUPPORT. Cells, registers and banks: what a write leaves in a cell, the bits of a register, a register's cells after
`apply`, and a bank that launches with one word everywhere. -/

namespace Sys2Proof.Machine

/-- After a write the cell's pending value is due at the next edge. -/
theorem Cell.write_nextTime (c : Cell) (clk : Clock) (v : Signal) : (c.write clk v).nextTime = clk.now + 1 := by
  simp only [Cell.write]; split; rfl; split <;> rfl

/-- After a write the cell's pending value is the one written. -/
theorem Cell.write_next (c : Cell) (clk : Clock) (v : Signal) : (c.write clk v).next = v := by
  simp only [Cell.write]; split; rfl; split <;> rfl

/-- Bit `k` of the word of 16 wires. -/
theorem getLsbD_wordOfWires (f : Fin 16 → Signal) {k : Nat} (h : k < 16) : (wordOfWires f).getLsbD k = f ⟨k, h⟩ := by
  rw [wordOfWires, getLsbD_wordOfBits]; simp [h]

/-- The word of a word's own bits is the word. -/
theorem wordOfWires_bits (w : Word) : (wordOfWires fun i => w.getLsbD i) = w := by
  apply BitVec.eq_of_getLsbD_eq
  intro k h
  rw [getLsbD_wordOfWires _ h]

/-- Bit `k` of a register's visible word is the visible value of its cell `k`. -/
theorem Register.getLsbD_read (r : Register) (clk : Clock) {k : Nat} (h : k < 16) :
    (r.read clk).getLsbD k = (r ⟨k, h⟩).read clk := getLsbD_wordOfWires _ h

/-- Every cell of a register after `apply` is the cell written with its new or its visible bit. -/
theorem Register.apply_cell (r : Register) (clk : Clock) (load : Signal) (w : Word) (k : Fin 16) :
    (r.apply clk load w).2 k = (r k).write clk (Gate.mux ((r k).read clk) (w.getLsbD k) load) := rfl

/-- A register at launch shows its launch word. -/
theorem Register.read_launch (w : Word) : (Register.launch w).read { count := 0 } = w := wordOfWires_bits w

/-- A bank that launches with one word everywhere shows that word everywhere. -/
theorem Bank.word_launch_const (n : Nat) (w : Word) (k : BitVec (3 * n)) :
    Bank.word n (Bank.launch n fun _ => w) { count := 0 } k = w := by
  induction n with
  | zero => exact Register.read_launch w
  | succ n ih => exact ih _

/-- A bank at launch has no stale cell. -/
theorem Bank.live_launch (n : Nat) (init : BitVec (3 * n) → Word) : Bank.live n (Bank.launch n init) { count := 0 } := by
  induction n with
  | zero => exact fun _ => .inr rfl
  | succ n ih => exact fun _ => ih _

end Sys2Proof.Machine
end

