-- ==== Sys2Proof/Laws/Decode.lean ====
section
/-! SUPPORT. Fields of words and of instructions. -/

namespace Sys2Proof

/-! ### The two small fields -/

@[simp] theorem Jump.ofCode_code (j : Jump) : Jump.ofCode j.code = j := by cases j <;> rfl

@[simp] theorem Dest.ofCode_code (d : Dest) : Dest.ofCode d.code = d := by
  obtain ⟨a, d, m⟩ := d
  cases a <;> cases d <;> cases m <;> rfl

@[simp] theorem SrcY.ofCode_code (s : SrcY) : SrcY.ofCode s.code = s := by cases s <;> rfl

@[simp] theorem SrcY.code_ofCode (a : Signal) : (SrcY.ofCode a).code = a := by cases a <;> rfl

theorem Jump.code_ofCode : ∀ j : BitVec 3, (Jump.ofCode j).code = j := by decide

theorem Dest.code_ofCode : ∀ d : BitVec 3, (Dest.ofCode d).code = d := by decide

/-! ### The opcode table's two directions -/

/-- The instruction of the fields of a compute instruction is that instruction. -/
theorem Instr.ofFields_of_shape {i : Instr} {src : SrcY} {c : BitVec 6} {dest : Dest} {jump : Jump}
    (h : i.shape = .comp src c dest jump) : Instr.ofFields src c dest jump = i := by
  cases i <;> simp only [Instr.shape, Shape.comp.injEq, reduceCtorEq] at h <;> obtain ⟨rfl, rfl, rfl, rfl⟩ := h <;> rfl

/-- A six-bit value is one of the 64 patterns. -/
theorem sixBits (c : BitVec 6) : c = BitVec.ofBool (c.getLsbD 5) ++ BitVec.ofBool (c.getLsbD 4) ++
    BitVec.ofBool (c.getLsbD 3) ++ BitVec.ofBool (c.getLsbD 2) ++ BitVec.ofBool (c.getLsbD 1) ++
    BitVec.ofBool (c.getLsbD 0) := by
  revert c; decide

/-- The fields of the instruction of given fields are those. -/
theorem Instr.shape_ofFields (src : SrcY) (c : BitVec 6) (dest : Dest) (jump : Jump) :
    (Instr.ofFields src c dest jump).shape = .comp src c dest jump := by
  rw [sixBits c]
  generalize c.getLsbD 5 = b5
  generalize c.getLsbD 4 = b4
  generalize c.getLsbD 3 = b3
  generalize c.getLsbD 2 = b2
  generalize c.getLsbD 1 = b1
  generalize c.getLsbD 0 = b0
  cases src <;> cases b5 <;> cases b4 <;> cases b3 <;> cases b2 <;> cases b1 <;> cases b0 <;> rfl

/-- A load-address instruction is the one of its literal. -/
theorem Instr.eq_of_shape_load {i : Instr} {value : BitVec 15} (h : i.shape = .load value) : i = .loadAddr value := by
  cases i <;> simp only [Instr.shape, Shape.load.injEq, reduceCtorEq] at h
  rw [h]

/-- Every instruction is a load-address instruction or the compute instruction of its fields. -/
theorem Instr.eq_ofFields (i : Instr) :
    (∃ value, i = .loadAddr value) ∨ ∃ src c dest jump, i = .ofFields src c dest jump := by
  cases h : i.shape with
  | load value => exact .inl ⟨value, Instr.eq_of_shape_load h⟩
  | comp src c dest jump => exact .inr ⟨src, c, dest, jump, (Instr.ofFields_of_shape h).symm⟩

/-! ### The two formats -/

/-- A word with bit 15 high decodes to the compute instruction of its fields. -/
theorem decodeWord_comp {w : Word} (h : w.getLsbD 15 = true) :
    decodeWord w = .ofFields (.ofCode (w.getLsbD 12)) (w.extractLsb' 6 6) (.ofCode (w.extractLsb' 3 3))
      (.ofCode (w.extractLsb' 0 3)) := by
  simp only [decodeWord, h, if_true]

/-- A word with bit 15 low decodes to the load-address instruction of its low bits. -/
theorem decodeWord_load {w : Word} (h : w.getLsbD 15 = false) : decodeWord w = .loadAddr (w.extractLsb' 0 15) := by
  simp only [decodeWord, h]; rfl

/-! ### The rows of the table -/

theorem encode_load_row (value : BitVec 15) :
    encodeWord (.loadAddr value) &&& Instr.tableMask (.loadAddr value) = Instr.tableMatch (.loadAddr value) := by
  apply BitVec.eq_of_toNat_eq
  simp only [encodeWord, Instr.shape, Instr.tableMask, Instr.tableMatch, BitVec.toNat_and, BitVec.toNat_append,
    BitVec.toNat_ofNat]
  have := value.isLt
  apply Nat.eq_of_testBit_eq
  intro k
  simp only [Nat.testBit_and]
  by_cases hk : k = 15
  · subst hk
    simp [Nat.testBit_lt_two_pow this]
  · have : Nat.testBit 32768 k = false := by
      rw [show (32768 : Nat) = 2 ^ 15 from rfl, Nat.testBit_two_pow]; simp; omega
    simp [this]

/-- The bits of five fields side by side, as a compute instruction's word has them (table R83). -/
theorem getLsbD_fields (x : BitVec 3) (b : BitVec 1) (c : BitVec 6) (d j : BitVec 3) (k : Nat) :
    BitVec.getLsbD (w := 3 + 1 + 6 + 3 + 3) (x ++ b ++ c ++ d ++ j) k =
      if k < 3 then j.getLsbD k else if k < 6 then d.getLsbD (k - 3) else if k < 12 then c.getLsbD (k - 6)
      else if k < 13 then b.getLsbD (k - 12) else x.getLsbD (k - 13) := by
  rw [BitVec.getLsbD_append, BitVec.getLsbD_append, BitVec.getLsbD_append, BitVec.getLsbD_append]
  by_cases h3 : k < 3
  · simp [h3]
  by_cases h6 : k < 6
  · rw [if_neg h3, if_neg h3, if_pos h6, if_pos (by omega)]
  by_cases h12 : k < 12
  · rw [if_neg h3, if_neg h3, if_neg h6, if_neg (by omega), if_pos h12, if_pos (by omega)]; congr 1
  by_cases h13 : k < 13
  · rw [if_neg h3, if_neg h3, if_neg h6, if_neg (by omega), if_neg h12, if_neg (by omega), if_pos h13,
      if_pos (by omega)]
    congr 1
  · rw [if_neg h3, if_neg h3, if_neg h6, if_neg (by omega), if_neg h12, if_neg (by omega), if_neg h13,
      if_neg (by omega)]
    congr 1

/-- The bits of a compute instruction's word. -/
theorem encode_comp_bit {i : Instr} {src : SrcY} {c : BitVec 6} {dest : Dest} {jump : Jump}
    (h : i.shape = .comp src c dest jump) (k : Nat) :
    (encodeWord i).getLsbD k =
      if k < 3 then jump.code.getLsbD k else if k < 6 then dest.code.getLsbD (k - 3)
      else if k < 12 then c.getLsbD (k - 6) else if k < 13 then (BitVec.ofBool src.code).getLsbD (k - 12)
      else (0b111#3).getLsbD (k - 13) := by
  simp only [encodeWord, h]
  exact getLsbD_fields _ _ _ _ _ k

/-- The bits of a load-address instruction's word. -/
theorem encode_load_bit (value : BitVec 15) (k : Nat) :
    (encodeWord (.loadAddr value)).getLsbD k = if k < 15 then value.getLsbD k else false := by
  have h : BitVec.getLsbD (w := 1 + 15) (0b0#1 ++ value) k = if k < 15 then value.getLsbD k else false := by
    rw [BitVec.getLsbD_append]; simp
  exact h

/-- The word of a compute instruction, under the mask of the compute rows, keeps bit 15, bit 12 and bits 11..6 alone. -/
theorem encode_comp_row {i : Instr} {src : SrcY} {c : BitVec 6} {dest : Dest} {jump : Jump}
    (h : i.shape = .comp src c dest jump)
    (hm : i.tableMatch = 0b100#3 ++ BitVec.ofBool src.code ++ c ++ 0b000#3 ++ 0b000#3) :
    encodeWord i &&& i.tableMask = i.tableMatch := by
  have hmask : i.tableMask = 0x9FC0#16 := by simp only [Instr.tableMask, h]
  apply BitVec.eq_of_getLsbD_eq
  intro k hk
  rw [BitVec.getLsbD_and, encode_comp_bit h, hm, hmask]
  refine Eq.trans ?_ (getLsbD_fields _ _ _ _ _ k).symm
  interval_cases k <;> simp

end Sys2Proof
end

