-- ==== Sys2Proof/Laws/State.lean ====
section
/-! SUPPORT. What each update of the state does to each field, so that no proof unfolds a record update. -/

namespace Sys2Proof.Machine

@[simp] theorem cpuEdge_A (s : State) (a d p : Word) : (cpuEdge s a d p).A = a := rfl
@[simp] theorem cpuEdge_D (s : State) (a d p : Word) : (cpuEdge s a d p).D = d := rfl
@[simp] theorem cpuEdge_PC (s : State) (a d p : Word) : (cpuEdge s a d p).PC = p := rfl
@[simp] theorem cpuEdge_inM (s : State) (a d p : Word) : (cpuEdge s a d p).inM = s.inM := rfl
@[simp] theorem cpuEdge_pc (s : State) (a d p : Word) : (cpuEdge s a d p).pc = low15 p := rfl
@[simp] theorem cpuEdge_addressM (s : State) (a d p : Word) : (cpuEdge s a d p).addressM = low15 a := rfl
@[simp] theorem cpuEdge_ram (s : State) (a d p : Word) : (cpuEdge s a d p).ram = s.ram := rfl
@[simp] theorem cpuEdge_screen (s : State) (a d p : Word) : (cpuEdge s a d p).screen = s.screen := rfl
@[simp] theorem cpuEdge_keyboard (s : State) (a d p : Word) : (cpuEdge s a d p).keyboard = s.keyboard := rfl
@[simp] theorem cpuEdge_cpuClock (s : State) (a d p : Word) : (cpuEdge s a d p).cpuClock = s.cpuClock + 1 := rfl
@[simp] theorem cpuEdge_extClock (s : State) (a d p : Word) : (cpuEdge s a d p).extClock = s.extClock := rfl
@[simp] theorem cpuEdge_rom (s : State) (a d p : Word) : (cpuEdge s a d p).rom = s.rom := rfl
@[simp] theorem cpuEdge_resetIn (s : State) (a d p : Word) : (cpuEdge s a d p).resetIn = s.resetIn := rfl
@[simp] theorem cpuEdge_keyIn (s : State) (a d p : Word) : (cpuEdge s a d p).keyIn = s.keyIn := rfl
@[simp] theorem cpuEdge_t (s : State) (a d p : Word) : (cpuEdge s a d p).t = s.t := rfl

@[simp] theorem extEdge_A (s : State) : (extEdge s).A = s.A := rfl
@[simp] theorem extEdge_D (s : State) : (extEdge s).D = s.D := rfl
@[simp] theorem extEdge_PC (s : State) : (extEdge s).PC = s.PC := rfl
@[simp] theorem extEdge_inM (s : State) : (extEdge s).inM = s.inM := rfl
@[simp] theorem extEdge_pc (s : State) : (extEdge s).pc = s.pc := rfl
@[simp] theorem extEdge_addressM (s : State) : (extEdge s).addressM = s.addressM := rfl
@[simp] theorem extEdge_ram (s : State) : (extEdge s).ram = s.ram := rfl
@[simp] theorem extEdge_screen (s : State) : (extEdge s).screen = s.screen := rfl
@[simp] theorem extEdge_keyboard (s : State) : (extEdge s).keyboard = s.keyboard := rfl
@[simp] theorem extEdge_cpuClock (s : State) : (extEdge s).cpuClock = s.cpuClock := rfl
@[simp] theorem extEdge_extClock (s : State) : (extEdge s).extClock = s.extClock + 1 := rfl
@[simp] theorem extEdge_rom (s : State) : (extEdge s).rom = s.rom := rfl
@[simp] theorem extEdge_resetIn (s : State) : (extEdge s).resetIn = s.resetIn := rfl
@[simp] theorem extEdge_keyIn (s : State) : (extEdge s).keyIn = s.keyIn := rfl
@[simp] theorem extEdge_t (s : State) : (extEdge s).t = s.t := rfl

@[simp] theorem refresh_A (s : State) : (refresh s).A = s.A := rfl
@[simp] theorem refresh_D (s : State) : (refresh s).D = s.D := rfl
@[simp] theorem refresh_PC (s : State) : (refresh s).PC = s.PC := rfl
@[simp] theorem refresh_inM (s : State) : (refresh s).inM = memRead s s.addressM := rfl
@[simp] theorem refresh_pc (s : State) : (refresh s).pc = s.pc := rfl
@[simp] theorem refresh_addressM (s : State) : (refresh s).addressM = s.addressM := rfl
@[simp] theorem refresh_ram (s : State) : (refresh s).ram = s.ram := rfl
@[simp] theorem refresh_screen (s : State) : (refresh s).screen = s.screen := rfl
@[simp] theorem refresh_keyboard (s : State) : (refresh s).keyboard = s.keyboard := rfl
@[simp] theorem refresh_cpuClock (s : State) : (refresh s).cpuClock = s.cpuClock := rfl
@[simp] theorem refresh_extClock (s : State) : (refresh s).extClock = s.extClock := rfl
@[simp] theorem refresh_rom (s : State) : (refresh s).rom = s.rom := rfl
@[simp] theorem refresh_resetIn (s : State) : (refresh s).resetIn = s.resetIn := rfl
@[simp] theorem refresh_keyIn (s : State) : (refresh s).keyIn = s.keyIn := rfl
@[simp] theorem refresh_t (s : State) : (refresh s).t = s.t := rfl

@[simp] theorem nextInputs_A (s : State) : (nextInputs s).A = s.A := rfl
@[simp] theorem nextInputs_D (s : State) : (nextInputs s).D = s.D := rfl
@[simp] theorem nextInputs_PC (s : State) : (nextInputs s).PC = s.PC := rfl
@[simp] theorem nextInputs_inM (s : State) : (nextInputs s).inM = s.inM := rfl
@[simp] theorem nextInputs_pc (s : State) : (nextInputs s).pc = s.pc := rfl
@[simp] theorem nextInputs_addressM (s : State) : (nextInputs s).addressM = s.addressM := rfl
@[simp] theorem nextInputs_ram (s : State) : (nextInputs s).ram = s.ram := rfl
@[simp] theorem nextInputs_screen (s : State) : (nextInputs s).screen = s.screen := rfl
@[simp] theorem nextInputs_keyboard (s : State) : (nextInputs s).keyboard = s.keyIn.headD s.keyboard := rfl
@[simp] theorem nextInputs_cpuClock (s : State) : (nextInputs s).cpuClock = s.cpuClock := rfl
@[simp] theorem nextInputs_extClock (s : State) : (nextInputs s).extClock = s.extClock := rfl
@[simp] theorem nextInputs_rom (s : State) : (nextInputs s).rom = s.rom := rfl
@[simp] theorem nextInputs_resetIn (s : State) : (nextInputs s).resetIn = s.resetIn.tail := rfl
@[simp] theorem nextInputs_keyIn (s : State) : (nextInputs s).keyIn = s.keyIn.tail := rfl
@[simp] theorem nextInputs_t (s : State) : (nextInputs s).t = s.t + 1 := rfl

@[simp] theorem withFetchWord_A (s : State) (nbits w : Nat) :
    (s.withFetchWord nbits w).A = s.A := rfl
@[simp] theorem withFetchWord_D (s : State) (nbits w : Nat) :
    (s.withFetchWord nbits w).D = s.D := rfl
@[simp] theorem withFetchWord_PC (s : State) (nbits w : Nat) :
    (s.withFetchWord nbits w).PC = s.PC := rfl
@[simp] theorem withFetchWord_inM (s : State) (nbits w : Nat) :
    (s.withFetchWord nbits w).inM = s.inM := rfl
@[simp] theorem withFetchWord_pc (s : State) (nbits w : Nat) :
    (s.withFetchWord nbits w).pc = s.pc := rfl
@[simp] theorem withFetchWord_addressM (s : State) (nbits w : Nat) :
    (s.withFetchWord nbits w).addressM = s.addressM := rfl
@[simp] theorem withFetchWord_ram (s : State) (nbits w : Nat) :
    (s.withFetchWord nbits w).ram = s.ram := rfl
@[simp] theorem withFetchWord_screen (s : State) (nbits w : Nat) :
    (s.withFetchWord nbits w).screen = s.screen := rfl
@[simp] theorem withFetchWord_keyboard (s : State) (nbits w : Nat) :
    (s.withFetchWord nbits w).keyboard = s.keyboard := rfl
@[simp] theorem withFetchWord_cpuClock (s : State) (nbits w : Nat) :
    (s.withFetchWord nbits w).cpuClock = s.cpuClock := rfl
@[simp] theorem withFetchWord_extClock (s : State) (nbits w : Nat) :
    (s.withFetchWord nbits w).extClock = s.extClock := rfl
@[simp] theorem withFetchWord_rom (s : State) (nbits w : Nat) :
    (s.withFetchWord nbits w).rom = s.rom.write s.pc.toNat (BitVec.ofNat 16 (w % 2 ^ nbits)) := rfl
@[simp] theorem withFetchWord_resetIn (s : State) (nbits w : Nat) :
    (s.withFetchWord nbits w).resetIn = s.resetIn := rfl
@[simp] theorem withFetchWord_keyIn (s : State) (nbits w : Nat) :
    (s.withFetchWord nbits w).keyIn = s.keyIn := rfl
@[simp] theorem withFetchWord_t (s : State) (nbits w : Nat) :
    (s.withFetchWord nbits w).t = s.t := rfl

/-! A write request changes nothing but the two stores of words. -/

@[simp] theorem memWrite_A (s : State) (addr : Addr) (v : Word) : (memWrite s addr v).A = s.A := by
  unfold memWrite; split <;> rfl

@[simp] theorem memRequest_A (s : State) (writeM : Signal) (addr : Addr) (v : Word) :
    (memRequest s writeM addr v).A = s.A := by
  cases writeM <;> simp [memRequest]

@[simp] theorem memWrite_D (s : State) (addr : Addr) (v : Word) : (memWrite s addr v).D = s.D := by
  unfold memWrite; split <;> rfl

@[simp] theorem memRequest_D (s : State) (writeM : Signal) (addr : Addr) (v : Word) :
    (memRequest s writeM addr v).D = s.D := by
  cases writeM <;> simp [memRequest]

@[simp] theorem memWrite_PC (s : State) (addr : Addr) (v : Word) : (memWrite s addr v).PC = s.PC := by
  unfold memWrite; split <;> rfl

@[simp] theorem memRequest_PC (s : State) (writeM : Signal) (addr : Addr) (v : Word) :
    (memRequest s writeM addr v).PC = s.PC := by
  cases writeM <;> simp [memRequest]

@[simp] theorem memWrite_inM (s : State) (addr : Addr) (v : Word) : (memWrite s addr v).inM = s.inM := by
  unfold memWrite; split <;> rfl

@[simp] theorem memRequest_inM (s : State) (writeM : Signal) (addr : Addr) (v : Word) :
    (memRequest s writeM addr v).inM = s.inM := by
  cases writeM <;> simp [memRequest]

@[simp] theorem memWrite_pc (s : State) (addr : Addr) (v : Word) : (memWrite s addr v).pc = s.pc := by
  unfold memWrite; split <;> rfl

@[simp] theorem memRequest_pc (s : State) (writeM : Signal) (addr : Addr) (v : Word) :
    (memRequest s writeM addr v).pc = s.pc := by
  cases writeM <;> simp [memRequest]

@[simp] theorem memWrite_addressM (s : State) (addr : Addr) (v : Word) : (memWrite s addr v).addressM = s.addressM := by
  unfold memWrite; split <;> rfl

@[simp] theorem memRequest_addressM (s : State) (writeM : Signal) (addr : Addr) (v : Word) :
    (memRequest s writeM addr v).addressM = s.addressM := by
  cases writeM <;> simp [memRequest]

@[simp] theorem memWrite_keyboard (s : State) (addr : Addr) (v : Word) : (memWrite s addr v).keyboard = s.keyboard := by
  unfold memWrite; split <;> rfl

@[simp] theorem memRequest_keyboard (s : State) (writeM : Signal) (addr : Addr) (v : Word) :
    (memRequest s writeM addr v).keyboard = s.keyboard := by
  cases writeM <;> simp [memRequest]

@[simp] theorem memWrite_cpuClock (s : State) (addr : Addr) (v : Word) : (memWrite s addr v).cpuClock = s.cpuClock := by
  unfold memWrite; split <;> rfl

@[simp] theorem memRequest_cpuClock (s : State) (writeM : Signal) (addr : Addr) (v : Word) :
    (memRequest s writeM addr v).cpuClock = s.cpuClock := by
  cases writeM <;> simp [memRequest]

@[simp] theorem memWrite_extClock (s : State) (addr : Addr) (v : Word) : (memWrite s addr v).extClock = s.extClock := by
  unfold memWrite; split <;> rfl

@[simp] theorem memRequest_extClock (s : State) (writeM : Signal) (addr : Addr) (v : Word) :
    (memRequest s writeM addr v).extClock = s.extClock := by
  cases writeM <;> simp [memRequest]

@[simp] theorem memWrite_rom (s : State) (addr : Addr) (v : Word) : (memWrite s addr v).rom = s.rom := by
  unfold memWrite; split <;> rfl

@[simp] theorem memRequest_rom (s : State) (writeM : Signal) (addr : Addr) (v : Word) :
    (memRequest s writeM addr v).rom = s.rom := by
  cases writeM <;> simp [memRequest]

@[simp] theorem memWrite_resetIn (s : State) (addr : Addr) (v : Word) : (memWrite s addr v).resetIn = s.resetIn := by
  unfold memWrite; split <;> rfl

@[simp] theorem memRequest_resetIn (s : State) (writeM : Signal) (addr : Addr) (v : Word) :
    (memRequest s writeM addr v).resetIn = s.resetIn := by
  cases writeM <;> simp [memRequest]

@[simp] theorem memWrite_keyIn (s : State) (addr : Addr) (v : Word) : (memWrite s addr v).keyIn = s.keyIn := by
  unfold memWrite; split <;> rfl

@[simp] theorem memRequest_keyIn (s : State) (writeM : Signal) (addr : Addr) (v : Word) :
    (memRequest s writeM addr v).keyIn = s.keyIn := by
  cases writeM <;> simp [memRequest]

@[simp] theorem memWrite_t (s : State) (addr : Addr) (v : Word) : (memWrite s addr v).t = s.t := by
  unfold memWrite; split <;> rfl

@[simp] theorem memRequest_t (s : State) (writeM : Signal) (addr : Addr) (v : Word) :
    (memRequest s writeM addr v).t = s.t := by
  cases writeM <;> simp [memRequest]

/-! The step's tail, field by field. -/

@[simp] theorem finishStep_A (s : State) (a d p : Word) (writeM : Signal) (outM : Word) :
    (finishStep s a d p writeM outM).A = a := by
  simp [finishStep]

@[simp] theorem finishStep_D (s : State) (a d p : Word) (writeM : Signal) (outM : Word) :
    (finishStep s a d p writeM outM).D = d := by
  simp [finishStep]

@[simp] theorem finishStep_PC (s : State) (a d p : Word) (writeM : Signal) (outM : Word) :
    (finishStep s a d p writeM outM).PC = p := by
  simp [finishStep]

@[simp] theorem finishStep_pc (s : State) (a d p : Word) (writeM : Signal) (outM : Word) :
    (finishStep s a d p writeM outM).pc = low15 p := by
  simp [finishStep]

@[simp] theorem finishStep_addressM (s : State) (a d p : Word) (writeM : Signal) (outM : Word) :
    (finishStep s a d p writeM outM).addressM = low15 a := by
  simp [finishStep]

@[simp] theorem finishStep_cpuClock (s : State) (a d p : Word) (writeM : Signal) (outM : Word) :
    (finishStep s a d p writeM outM).cpuClock = s.cpuClock + 1 := by
  simp [finishStep]

@[simp] theorem finishStep_extClock (s : State) (a d p : Word) (writeM : Signal) (outM : Word) :
    (finishStep s a d p writeM outM).extClock = s.extClock + 1 := by
  simp [finishStep]

@[simp] theorem finishStep_resetIn (s : State) (a d p : Word) (writeM : Signal) (outM : Word) :
    (finishStep s a d p writeM outM).resetIn = s.resetIn.tail := by
  simp [finishStep]

@[simp] theorem finishStep_keyboard (s : State) (a d p : Word) (writeM : Signal) (outM : Word) :
    (finishStep s a d p writeM outM).keyboard = s.keyIn.headD s.keyboard := by
  simp [finishStep]

@[simp] theorem finishStep_keyIn (s : State) (a d p : Word) (writeM : Signal) (outM : Word) :
    (finishStep s a d p writeM outM).keyIn = s.keyIn.tail := by
  simp [finishStep]

@[simp] theorem finishStep_t (s : State) (a d p : Word) (writeM : Signal) (outM : Word) :
    (finishStep s a d p writeM outM).t = s.t + 1 := by
  simp [finishStep]

@[simp] theorem finishStep_rom (s : State) (a d p : Word) (writeM : Signal) (outM : Word) :
    (finishStep s a d p writeM outM).rom = s.rom := by
  simp [finishStep]

@[simp] theorem resetNow_withFetchWord (s : State) (nbits w : Nat) : resetNow (s.withFetchWord nbits w) = resetNow s := rfl

end Sys2Proof.Machine
end

