-- ==== Sys2Proof/Laws/Memory.lean ====
section
/-! SUPPORT. A store of words: reading after a write, and the canonical form, which every operation keeps. -/

namespace Sys2Proof.Machine

/-! ### Reading -/

@[simp] theorem Memory.read_nil (k : Nat) : Memory.read [] k = Config.unlistedWord := rfl

@[simp] theorem Memory.read_cons (a : Nat) (v : Word) (m : Memory) (k : Nat) :
    Memory.read ((a, v) :: m) k = if a = k then v else Memory.read m k := rfl

theorem Memory.read_erase (m : Memory) (k j : Nat) :
    (m.erase k).read j = if j = k then Config.unlistedWord else m.read j := by
  induction m with
  | nil => simp [Memory.erase]
  | cons e m ih =>
    obtain ⟨a, v⟩ := e
    simp only [Memory.erase] at ih ⊢
    by_cases h : a = k <;> by_cases hj : j = k
    · simpa [List.filter_cons, h, hj] using ih
    · simp [h, hj, Ne.symm hj] at ih ⊢; exact ih
    · simp [h, hj] at ih ⊢; exact ih
    · simp [h, hj] at ih ⊢; rw [ih]

theorem Memory.read_insert_self (m : Memory) (k : Nat) (v : Word) (h : ∀ e ∈ m, e.1 ≠ k) :
    (m.insert k v).read k = v := by
  induction m with
  | nil => simp [Memory.insert]
  | cons e m ih =>
    obtain ⟨a, x⟩ := e
    have ha : a ≠ k := h (a, x) (by simp)
    have := ih (fun e he => h e (by simp [he]))
    simp only [Memory.insert]
    split <;> simp [ha, this]

theorem Memory.read_insert_other (m : Memory) (k : Nat) (v : Word) (j : Nat) (h : j ≠ k) :
    (m.insert k v).read j = m.read j := by
  induction m with
  | nil => simp [Memory.insert, Ne.symm h]
  | cons e m ih =>
    obtain ⟨a, x⟩ := e
    simp only [Memory.insert]
    split <;> simp [Ne.symm h, ih]

theorem Memory.erase_ne (m : Memory) (k : Nat) : ∀ e ∈ m.erase k, e.1 ≠ k := by
  intro e he
  simpa using (List.mem_filter.mp he).2

/-- Reading after a write: the word written, and every other word as before. -/
theorem Memory.read_write (m : Memory) (k : Nat) (v : Word) (j : Nat) :
    (m.write k v).read j = if j = k then v else m.read j := by
  unfold Memory.write
  split
  · next h => rw [Memory.read_erase]; simp [h]
  · by_cases hj : j = k
    · subst hj; simp [Memory.read_insert_self _ _ _ (Memory.erase_ne m j)]
    · rw [Memory.read_insert_other _ _ _ _ hj, Memory.read_erase, if_neg hj, if_neg hj]

/-! ### The canonical form -/

theorem Memory.risingFrom_mono {size lo lo' : Nat} {m : Memory} (h : m.risingFrom size lo = true) (hl : lo' ≤ lo) :
    m.risingFrom size lo' = true := by
  cases m with
  | nil => rfl
  | cons e m =>
    simp only [Memory.risingFrom, Bool.and_eq_true, decide_eq_true_eq] at h ⊢
    exact ⟨⟨by omega, h.1.2⟩, h.2⟩

theorem Memory.risingFrom_erase {size lo : Nat} {m : Memory} (k : Nat) (h : m.risingFrom size lo = true) :
    (m.erase k).risingFrom size lo = true := by
  induction m generalizing lo with
  | nil => rfl
  | cons e m ih =>
    obtain ⟨a, v⟩ := e
    simp only [Memory.risingFrom, Bool.and_eq_true, decide_eq_true_eq] at h
    have := ih h.2
    simp only [Memory.erase] at this ⊢
    by_cases hk : a = k
    · simpa [List.filter_cons, hk] using Memory.risingFrom_mono (hk ▸ this) (by omega)
    · simp [hk, Memory.risingFrom, h.1, this]

theorem Memory.risingFrom_insert {size lo k : Nat} {m : Memory} (v : Word) (h : m.risingFrom size lo = true)
    (hne : ∀ e ∈ m, e.1 ≠ k) (hlo : lo ≤ k) (hk : k < size) : (m.insert k v).risingFrom size lo = true := by
  induction m generalizing lo with
  | nil => simp [Memory.insert, Memory.risingFrom, hlo, hk]
  | cons e m ih =>
    obtain ⟨a, x⟩ := e
    have ha : a ≠ k := hne (a, x) (by simp)
    simp only [Memory.risingFrom, Bool.and_eq_true, decide_eq_true_eq] at h
    simp only [Memory.insert]
    split
    · simp [Memory.risingFrom, hlo, hk, h.2]; omega
    · simp [Memory.risingFrom, h.1, ih h.2 (fun e he => hne e (by simp [he])) (by omega)]

theorem Memory.mem_insert {m : Memory} {k : Nat} {v : Word} {e : Nat × Word} (h : e ∈ m.insert k v) :
    e = (k, v) ∨ e ∈ m := by
  induction m with
  | nil => simpa [Memory.insert] using h
  | cons f m ih =>
    obtain ⟨a, x⟩ := f
    simp only [Memory.insert] at h
    split at h
    · simpa using h
    · rcases List.mem_cons.mp h with h | h
      · simp [h]
      · rcases ih h with h | h <;> simp [h]

@[simp] theorem Memory.wf_nil (size : Nat) : Memory.wf size [] = true := rfl

/-- A write at an address of the store keeps the canonical form. -/
theorem Memory.wf_write {size k : Nat} {m : Memory} (v : Word) (h : m.wf size = true) (hk : k < size) :
    (m.write k v).wf size = true := by
  simp only [Memory.wf, Bool.and_eq_true, List.all_eq_true, bne_iff_ne] at h ⊢
  have he := Memory.risingFrom_erase k h.1
  have hm : ∀ e ∈ m.erase k, e.2 ≠ Config.unlistedWord := fun e hx => h.2 e (List.mem_filter.mp hx).1
  unfold Memory.write
  split
  · exact ⟨he, hm⟩
  · next hv =>
    refine ⟨Memory.risingFrom_insert v he (Memory.erase_ne m k) (Nat.zero_le k) hk, fun e hx => ?_⟩
    rcases Memory.mem_insert hx with rfl | hx
    · exact hv
    · exact hm e hx

/-- Writing a list of words inside the store keeps the canonical form. -/
theorem Memory.wf_writeAll {size : Nat} {m : Memory} {k : Nat} {ws : List Word} (h : m.wf size = true)
    (hk : k + ws.length ≤ size) : (m.writeAll k ws).wf size = true := by
  induction ws generalizing m k with
  | nil => exact h
  | cons w ws ih =>
    simp only [List.length_cons] at hk
    exact ih (Memory.wf_write w h (by omega)) (by omega)

/-- Reading after writing a list of words. -/
theorem Memory.read_writeAll (m : Memory) (k : Nat) (ws : List Word) (j : Nat) :
    (m.writeAll k ws).read j = if k ≤ j ∧ j < k + ws.length then ws.getD (j - k) 0#16 else m.read j := by
  induction ws generalizing m k with
  | nil => simp [Memory.writeAll]
  | cons w ws ih =>
    rw [Memory.writeAll, ih, Memory.read_write]
    simp only [List.length_cons]
    by_cases h : j = k
    · subst h; simp
    · by_cases h2 : k + 1 ≤ j ∧ j < k + 1 + ws.length
      · have h3 : j - k = (j - (k + 1)) + 1 := by omega
        rw [if_pos h2, if_pos (by omega), h3]; simp
      · rw [if_neg h2, if_neg h, if_neg (by omega)]

/-- Reset's stores are in canonical form. -/
theorem reset_stores_wf : State.reset.ram.wf Config.ramWords = true ∧ State.reset.screen.wf Config.screenWords = true ∧
    State.reset.rom.wf Config.romWords = true := ⟨rfl, rfl, rfl⟩

end Sys2Proof.Machine
end

