-- ==== Sys2Proof/Laws/Map.lean ====
section
/-! SUPPORT. The data address map: which addresses lead where, reading after a write, and what the step's tail leaves. -/

namespace Sys2Proof.Machine

theorem testBit_iff (n i : Nat) : n.testBit i = true ↔ n / 2 ^ i % 2 = 1 := by
  rw [Nat.testBit_eq_decide_div_mod_eq]; simp

/-- Where an address leads, with the address passed on, as numbers (table R52). -/
theorem region_spec (addr : Addr) :
    (∃ a, region addr = .ram a ∧ addr.toNat < 16384 ∧ a.toNat = addr.toNat) ∨
    (∃ a, region addr = .screen a ∧ 16384 ≤ addr.toNat ∧ addr.toNat < 24576 ∧ a.toNat = addr.toNat - 16384) ∨
    (region addr = .keyboard ∧ addr.toNat = 24576) ∨
    (region addr = .unassigned ∧ 24577 ≤ addr.toNat) := by
  have hlt : addr.toNat < 32768 := addr.isLt
  by_cases h14 : addr.getLsbD 14 = true
  · have g14 : addr.toNat / 2 ^ 14 % 2 = 1 := (testBit_iff _ _).mp h14
    by_cases h13 : addr.getLsbD 13 = true
    · have g13 : addr.toNat / 2 ^ 13 % 2 = 1 := (testBit_iff _ _).mp h13
      by_cases hk : addr.toNat = Config.keyboardAddr
      · right; right; left
        exact ⟨by simp only [region, h14, h13, hk, if_true], hk⟩
      · right; right; right
        refine ⟨by simp only [region, h14, h13, if_true, if_neg hk], ?_⟩
        simp only [Config.keyboardAddr] at hk; omega
    · have g13 : ¬ addr.toNat / 2 ^ 13 % 2 = 1 := fun h => h13 ((testBit_iff _ _).mpr h)
      right; left
      refine ⟨addr.extractLsb' 0 13, by simp only [region, h14, h13, if_true, if_neg, Bool.false_eq_true, not_false_eq_true], by omega, by omega, ?_⟩
      simp only [BitVec.extractLsb'_toNat, Nat.shiftRight_zero]; omega
  · have g14 : ¬ addr.toNat / 2 ^ 14 % 2 = 1 := fun h => h14 ((testBit_iff _ _).mpr h)
    left
    refine ⟨addr.extractLsb' 0 14, by simp only [region, h14, if_neg, Bool.false_eq_true, not_false_eq_true], by omega, ?_⟩
    simp only [BitVec.extractLsb'_toNat, Nat.shiftRight_zero]; omega

/-- Reading a RAM or display word depends on the two stores alone. -/
theorem memRead_congr {s t : State} (hr : t.ram = s.ram) (hs : t.screen = s.screen) {addr : Addr}
    (h : addr.toNat < 24576) : memRead t addr = memRead s addr := by
  rcases region_spec addr with ⟨a, e, -, -⟩ | ⟨a, e, -, -, -⟩ | ⟨-, h2⟩ | ⟨-, h2⟩
  · simp [memRead, e, hr]
  · simp [memRead, e, hs]
  · omega
  · omega

/-- Reading after a write request: the word written where the request goes, every other word as before. -/
theorem memRead_memRequest (s : State) (writeM : Signal) (at_ : Addr) (v : Word) (addr : Addr) (h : addr.toNat < 24576) :
    memRead (memRequest s writeM at_ v) addr = if writeM = true ∧ addr = at_ then v else memRead s addr := by
  cases writeM with
  | false => simp [memRequest]
  | true =>
    have key : ∀ x y : Addr, x.toNat = y.toNat → x = y := fun _ _ => BitVec.eq_of_toNat_eq
    simp only [memRequest, if_true, true_and]
    rcases region_spec at_ with ⟨a, e, l, q⟩ | ⟨a, e, l, l', q⟩ | ⟨e, l⟩ | ⟨e, l⟩ <;>
    rcases region_spec addr with ⟨b, e', m, r⟩ | ⟨b, e', m, m', r⟩ | ⟨e', m⟩ | ⟨e', m⟩ <;> try omega
    · simp only [memRead, memWrite, e, e', Memory.read_write]
      by_cases hab : addr = at_
      · subst hab; simp [q, r]
      · rw [if_neg hab, if_neg (fun hh => hab (key _ _ (by omega)))]
    · rw [if_neg (fun hh => by subst hh; omega)]; simp [memRead, memWrite, e, e']
    · rw [if_neg (fun hh => by subst hh; omega)]; simp [memRead, memWrite, e, e']
    · simp only [memRead, memWrite, e, e', Memory.read_write]
      by_cases hab : addr = at_
      · subst hab; simp [q, r]
      · rw [if_neg hab, if_neg (fun hh => hab (key _ _ (by omega)))]
    · rw [if_neg (fun hh => by subst hh; omega)]; simp [memRead, memWrite, e]
    · rw [if_neg (fun hh => by subst hh; omega)]; simp [memRead, memWrite, e]
    · rw [if_neg (fun hh => by subst hh; omega)]; simp [memRead, memWrite, e]
    · rw [if_neg (fun hh => by subst hh; omega)]; simp [memRead, memWrite, e]

/-- A write request keeps the canonical form of RAM. -/
theorem memRequest_ram_wf {s : State} (writeM : Signal) (at_ : Addr) (v : Word) (h : s.ram.wf Config.ramWords = true) :
    (memRequest s writeM at_ v).ram.wf Config.ramWords = true := by
  cases writeM with
  | false => exact h
  | true =>
    simp only [memRequest, if_true]
    rcases region_spec at_ with ⟨a, e, l, q⟩ | ⟨a, e, l, l', q⟩ | ⟨e, l⟩ | ⟨e, l⟩ <;> simp only [memWrite, e]
    · exact Memory.wf_write v h (by simp only [Config.ramWords]; omega)
    all_goals exact h

/-- A write request keeps the canonical form of the display. -/
theorem memRequest_screen_wf {s : State} (writeM : Signal) (at_ : Addr) (v : Word)
    (h : s.screen.wf Config.screenWords = true) : (memRequest s writeM at_ v).screen.wf Config.screenWords = true := by
  cases writeM with
  | false => exact h
  | true =>
    simp only [memRequest, if_true]
    rcases region_spec at_ with ⟨a, e, l, q⟩ | ⟨a, e, l, l', q⟩ | ⟨e, l⟩ | ⟨e, l⟩ <;> simp only [memWrite, e]
    · exact h
    · exact Memory.wf_write v h (by simp only [Config.screenWords]; omega)
    all_goals exact h

/-- The stores after a step are those after its write request. -/
theorem finishStep_stores (s : State) (a d p : Word) (writeM : Signal) (outM : Word) :
    (finishStep s a d p writeM outM).ram = (memRequest s writeM (low15 a) outM).ram ∧
      (finishStep s a d p writeM outM).screen = (memRequest s writeM (low15 a) outM).screen := by
  cases writeM
  · exact ⟨rfl, rfl⟩
  · simp only [finishStep, memRequest, if_true, nextInputs_ram, nextInputs_screen, refresh_ram, refresh_screen, extEdge_ram,
      extEdge_screen, cpuEdge_addressM, memWrite]
    constructor <;> split <;> rfl

/-- What a RAM or display word reads as after a step. -/
theorem memRead_finishStep (s : State) (a d p : Word) (writeM : Signal) (outM : Word) {addr : Addr}
    (h : addr.toNat < 24576) :
    memRead (finishStep s a d p writeM outM) addr =
      if writeM = true ∧ addr = low15 a then outM else memRead s addr := by
  have hs := finishStep_stores s a d p writeM outM
  rw [memRead_congr hs.1 hs.2 h, memRead_memRequest _ _ _ _ _ h]

/-- What the refresh read of a step leaves in `inM`: the word after the write, the keyboard sample, or the open value. -/
theorem finishStep_inM (s : State) (a d p : Word) (writeM : Signal) (outM : Word) :
    (finishStep s a d p writeM outM).inM =
      if (low15 a).toNat < 24576 then memRead (finishStep s a d p writeM outM) (low15 a)
      else if (low15 a).toNat = 24576 then s.keyboard else Config.highRead (low15 a) s.t := by
  have e : (finishStep s a d p writeM outM).inM =
      memRead (extEdge (memRequest (cpuEdge s a d p) writeM (low15 a) outM)) (low15 a) := by
    simp [finishStep]
  rw [e]
  split
  · next h =>
    have hc := finishStep_stores s a d p writeM outM
    exact (memRead_congr (s := extEdge (memRequest (cpuEdge s a d p) writeM (low15 a) outM))
      (t := finishStep s a d p writeM outM) rfl rfl h).symm
  · next h =>
    rcases region_spec (low15 a) with ⟨b, r, l, -⟩ | ⟨b, r, l, l', -⟩ | ⟨r, l⟩ | ⟨r, l⟩
    · omega
    · omega
    · simp [memRead, r, l]
    · have : (low15 a).toNat ≠ 24576 := by omega
      simp [memRead, r, this]

end Sys2Proof.Machine
end

