-- ==== Sys2Proof/Laws/Exec.lean ====
section
/-! SUPPORT. What executing an instruction is, said once for all 129: the dispatch and the meanings depend on an instruction
through its shape alone. -/

namespace Sys2Proof.Machine

/-- A compute instruction is `compute` of its fields. -/
theorem exec_of_shape_comp {i : Instr} {src : SrcY} {c : BitVec 6} {dest : Dest} {jump : Jump}
    (h : i.shape = .comp src c dest jump) (s : State) : exec i s = compute src c dest jump s := by
  rw [← Instr.ofFields_of_shape h]
  have hs := Instr.shape_ofFields src c dest jump
  generalize Instr.ofFields src c dest jump = j at hs ⊢
  cases j <;> simp only [Instr.shape, Shape.comp.injEq, reduceCtorEq] at hs <;> obtain ⟨rfl, rfl, rfl, rfl⟩ := hs <;> rfl

/-- A load-address instruction is `loadAddress` of its literal. -/
theorem exec_loadAddr (value : BitVec 15) (s : State) : exec (.loadAddr value) s = loadAddress value s := rfl

/-- Executing an instruction is the step's tail with its fields' values: the registers, the write request and its word. -/
theorem exec_eq_finishStep (i : Instr) (s : State) :
    ∃ a d p writeM outM, exec i s = .next (finishStep s a d p writeM outM) := by
  rcases Instr.eq_ofFields i with ⟨value, rfl⟩ | ⟨src, c, dest, jump, rfl⟩
  · exact ⟨_, _, _, _, _, rfl⟩
  · rw [exec_of_shape_comp (Instr.shape_ofFields src c dest jump)]
    exact ⟨_, _, _, _, _, rfl⟩

/-- What the step's tail leaves in the registers. -/
theorem finishStep_registers (s : State) (a d p : Word) (writeM : Signal) (outM : Word) :
    (finishStep s a d p writeM outM).A = a ∧ (finishStep s a d p writeM outM).D = d ∧
      (finishStep s a d p writeM outM).PC = p := by
  simp [finishStep]

/-- The step's tail carries the addresses, refreshes `inM`, advances the Clocks and takes the next inputs. -/
theorem finishStep_carried (s : State) (a d p : Word) (writeM : Signal) (outM : Word) :
    Carried s (finishStep s a d p writeM outM) := by
  refine ⟨?_, ?_, ?_, ?_, ?_, ?_, ?_, ?_, ?_, ?_⟩
  · simp [finishStep]
  · simp [finishStep]
  · rw [finishStep_inM, (finishStep_registers s a d p writeM outM).1]; rfl
  all_goals simp [finishStep]

/-- Without a write request the step's tail leaves every RAM and display word. -/
theorem finishStep_kept (s : State) (a d p : Word) (outM : Word) : DataKept s (finishStep s a d p false outM) := by
  intro addr h; rw [memRead_finishStep _ _ _ _ _ _ h]; simp

/-- With a write request the step's tail writes the word at the new address and leaves every other one. -/
theorem finishStep_stored (s : State) (a d p : Word) (outM : Word) :
    DataStored s (finishStep s a d p true outM) (low15 a) outM := by
  intro addr h; rw [memRead_finishStep _ _ _ _ _ _ h]; simp

/-- The program counter after an instruction, by the priority of R212. -/
theorem pcAfter_eq (s : State) (jp : Signal) :
    pcAfter s jp = if resetNow s then 0x0000#16 else if jp then s.A else s.PC + 1#16 := by
  cases h : resetNow s <;> cases jp <;> simp [pcAfter, pcNext, choose, h]

@[simp] theorem resetNow_withReset (s : State) (r : Signal) : resetNow (s.withReset r) = r := rfl

end Sys2Proof.Machine
end

