-- ==== Sys2Proof/Laws/Flags.lean ====
section
/-! SUPPORT. The flags and the jump predicate as signs of the result. -/

namespace Sys2Proof.Machine

/-- The signed value of a word from its top bit. -/
theorem toInt_of_top (w : Word) : w.toInt = if w.getLsbD 15 then (w.toNat : Int) - 65536 else w.toNat := by
  rw [BitVec.toInt_eq_msb_cond, BitVec.msb_eq_getLsbD_last]; rfl

/-- `ng` says that the result is negative. -/
theorem negFlag_eq (w : Word) : negFlag w = decide (w.toInt < 0) := by
  rw [negFlag, toInt_of_top]
  have := w.isLt
  cases w.getLsbD 15 <;> simp; omega

/-- `zr` says that the result is zero. -/
theorem zeroFlag_eq (w : Word) : zeroFlag w = decide (w.toInt = 0) := by
  rw [zeroFlag]
  by_cases h : w = 0#16
  · subst h; rfl
  · have : w.toInt ≠ 0 := fun h2 => h (BitVec.eq_of_toInt_eq (by simpa using h2))
    simp [h, this]

/-- The jump predicate of an ALU output is the jump condition on the sign of its result. -/
theorem taken_aluOf (jump : Jump) (c : BitVec 6) (x y : Word) :
    Jump.taken jump (aluOf c x y) = jumpsOn jump (aluOf c x y).out := by
  have e1 : (aluOf c x y).zr = decide ((aluOf c x y).out.toInt = 0) := zeroFlag_eq _
  have e2 : (aluOf c x y).ng = decide ((aluOf c x y).out.toInt < 0) := negFlag_eq _
  simp only [Jump.taken, jumpPredicate, e1, e2, jumpsOn]
  generalize (aluOf c x y).out.toInt = n
  have sign : (n < 0 ∧ ¬ n = 0 ∧ ¬ 0 < n ∧ ¬ 0 ≤ n ∧ n ≤ 0) ∨ (¬ n < 0 ∧ n = 0 ∧ ¬ 0 < n ∧ 0 ≤ n ∧ n ≤ 0) ∨
      (¬ n < 0 ∧ ¬ n = 0 ∧ 0 < n ∧ 0 ≤ n ∧ ¬ n ≤ 0) := by omega
  rcases sign with ⟨a, b, c, d, e⟩ | ⟨a, b, c, d, e⟩ | ⟨a, b, c, d, e⟩ <;> cases jump <;>
    simp only [a, b, c, d, e, ne_eq] <;> decide

end Sys2Proof.Machine
end

