-- ==== Sys2Proof/Laws/Loader.lean ====
section
/-! SUPPORT. The textual source of the instruction store: what splitting it into lines gives, and the words its lines
give. -/

namespace Sys2Proof.Machine

/-- The line of a word has 16 characters. -/
@[simp] theorem length_lineOfWord (w : Word) : (lineOfWord w).length = 16 := by simp [lineOfWord]

/-- The line of a word is accepted. -/
@[simp] theorem wordLineWf_lineOfWord (w : Word) : wordLineWf (lineOfWord w) = true := by
  simp only [wordLineWf, length_lineOfWord]
  simp [lineOfWord]

/-- The word of the line of a word is the word. -/
@[simp] theorem wordOfLine_lineOfWord (w : Word) : wordOfLine (lineOfWord w) = w := by
  have digit : ∀ b : Bool, (if (if b then '1' else '0') = '1' then 1#16 else 0#16) = if b then 1#16 else 0#16 := by decide
  have bit : ∀ (b : Bool) (k : Nat) (h : k < 16), (if b then 1#16 else 0#16)[k] = (b && decide (k = 0)) := by
    intro b k h
    cases b <;> simp
  have positions : List.range 16 = [0, 1, 2, 3, 4, 5, 6, 7, 8, 9, 10, 11, 12, 13, 14, 15] := by decide
  apply BitVec.eq_of_getLsbD_eq
  intro k hk
  rw [lineOfWord, positions]
  simp only [wordOfLine, List.map, List.foldl, digit]
  interval_cases k <;> simp [bit]

/-- The line of a word holds no line feed. -/
theorem lineFeed_not_mem_lineOfWord (w : Word) : '\n' ∉ lineOfWord w := by
  simp only [lineOfWord, List.mem_map, not_exists, not_and]
  intro k _
  split <;> decide

/-- No well-formed line of a source holds a line feed. -/
theorem SourceLine.lineFeed_not_mem_chars (line : SourceLine) (h : line.wf = true) : '\n' ∉ line.chars := by
  cases line with
  | short chars =>
    simp only [SourceLine.wf, Bool.and_eq_true, List.all_eq_true] at h
    exact fun hm => by simpa using h.2 _ hm
  | word w => exact lineFeed_not_mem_lineOfWord w

/-- A line ended by a line feed is split off. -/
theorem splitLines_append_lineFeed (cur line rest : List Char) (h : '\n' ∉ line) :
    splitLines cur (line ++ '\n' :: rest) = (cur.reverse ++ line) :: splitLines [] rest := by
  induction line generalizing cur with
  | nil => simp [splitLines]
  | cons ch line ih =>
    obtain ⟨hc, hl⟩ := not_or.mp (fun hm => h (List.mem_cons.mpr hm))
    rw [List.cons_append, splitLines, if_neg (Ne.symm hc), ih _ hl]
    simp

/-- Characters without a line feed are one line. -/
theorem splitLines_of_no_lineFeed (cur line : List Char) (h : '\n' ∉ line) : splitLines cur line = [cur.reverse ++ line] := by
  induction line generalizing cur with
  | nil => simp [splitLines]
  | cons ch line ih =>
    obtain ⟨hc, hl⟩ := not_or.mp (fun hm => h (List.mem_cons.mpr hm))
    rw [splitLines, if_neg (Ne.symm hc), ih _ hl]
    simp

/-- A well-formed line before others adds its word, if it gives one. -/
theorem wordsOfLines_chars_cons (line : SourceLine) (h : line.wf = true) (rest : List (List Char)) :
    wordsOfLines (line.chars :: rest) = (wordsOfLines rest).map (line.word?.toList ++ ·) := by
  cases line with
  | short chars =>
    simp only [SourceLine.wf, Bool.and_eq_true, decide_eq_true_eq] at h
    simp only [SourceLine.chars, wordsOfLines, h.1, if_true]
    cases wordsOfLines rest <;> rfl
  | word w => simp [SourceLine.chars, wordsOfLines]; rfl

end Sys2Proof.Machine
end

