-- ==== Sys2Proof/Laws/PerInstr.lean ====
section
/-! SUPPORT. What holds of every instruction as syntax, one lemma per constructor of Instr. -/

namespace Sys2Proof.Laws

/-- The word of an instruction lies in its own row of spec/opcode_table.json: under the row's mask it is the row's match
value (30_encoding.md R92). -/
def Encoding.Statement (i : Instr) : Prop := encodeWord i &&& i.tableMask = i.tableMatch

theorem Encoding.loadAddr (value : BitVec 15) : Encoding.Statement (.loadAddr value) := encode_load_row value

theorem Encoding.dAndA (dest : Dest) (jump : Jump) : Encoding.Statement (.dAndA dest jump) := encode_comp_row rfl rfl

theorem Encoding.c0000001 (dest : Dest) (jump : Jump) : Encoding.Statement (.c0000001 dest jump) := encode_comp_row rfl rfl

theorem Encoding.dPlusA (dest : Dest) (jump : Jump) : Encoding.Statement (.dPlusA dest jump) := encode_comp_row rfl rfl

theorem Encoding.c0000011 (dest : Dest) (jump : Jump) : Encoding.Statement (.c0000011 dest jump) := encode_comp_row rfl rfl

theorem Encoding.c0000100 (dest : Dest) (jump : Jump) : Encoding.Statement (.c0000100 dest jump) := encode_comp_row rfl rfl

theorem Encoding.c0000101 (dest : Dest) (jump : Jump) : Encoding.Statement (.c0000101 dest jump) := encode_comp_row rfl rfl

theorem Encoding.c0000110 (dest : Dest) (jump : Jump) : Encoding.Statement (.c0000110 dest jump) := encode_comp_row rfl rfl

theorem Encoding.aMinusD (dest : Dest) (jump : Jump) : Encoding.Statement (.aMinusD dest jump) := encode_comp_row rfl rfl

theorem Encoding.c0001000 (dest : Dest) (jump : Jump) : Encoding.Statement (.c0001000 dest jump) := encode_comp_row rfl rfl

theorem Encoding.c0001001 (dest : Dest) (jump : Jump) : Encoding.Statement (.c0001001 dest jump) := encode_comp_row rfl rfl

theorem Encoding.c0001010 (dest : Dest) (jump : Jump) : Encoding.Statement (.c0001010 dest jump) := encode_comp_row rfl rfl

theorem Encoding.c0001011 (dest : Dest) (jump : Jump) : Encoding.Statement (.c0001011 dest jump) := encode_comp_row rfl rfl

theorem Encoding.compD (dest : Dest) (jump : Jump) : Encoding.Statement (.compD dest jump) := encode_comp_row rfl rfl

theorem Encoding.notD (dest : Dest) (jump : Jump) : Encoding.Statement (.notD dest jump) := encode_comp_row rfl rfl

theorem Encoding.dMinus1 (dest : Dest) (jump : Jump) : Encoding.Statement (.dMinus1 dest jump) := encode_comp_row rfl rfl

theorem Encoding.negD (dest : Dest) (jump : Jump) : Encoding.Statement (.negD dest jump) := encode_comp_row rfl rfl

theorem Encoding.c0010000 (dest : Dest) (jump : Jump) : Encoding.Statement (.c0010000 dest jump) := encode_comp_row rfl rfl

theorem Encoding.c0010001 (dest : Dest) (jump : Jump) : Encoding.Statement (.c0010001 dest jump) := encode_comp_row rfl rfl

theorem Encoding.c0010010 (dest : Dest) (jump : Jump) : Encoding.Statement (.c0010010 dest jump) := encode_comp_row rfl rfl

theorem Encoding.dMinusA (dest : Dest) (jump : Jump) : Encoding.Statement (.dMinusA dest jump) := encode_comp_row rfl rfl

theorem Encoding.c0010100 (dest : Dest) (jump : Jump) : Encoding.Statement (.c0010100 dest jump) := encode_comp_row rfl rfl

theorem Encoding.dOrA (dest : Dest) (jump : Jump) : Encoding.Statement (.dOrA dest jump) := encode_comp_row rfl rfl

theorem Encoding.c0010110 (dest : Dest) (jump : Jump) : Encoding.Statement (.c0010110 dest jump) := encode_comp_row rfl rfl

theorem Encoding.c0010111 (dest : Dest) (jump : Jump) : Encoding.Statement (.c0010111 dest jump) := encode_comp_row rfl rfl

theorem Encoding.c0011000 (dest : Dest) (jump : Jump) : Encoding.Statement (.c0011000 dest jump) := encode_comp_row rfl rfl

theorem Encoding.c0011001 (dest : Dest) (jump : Jump) : Encoding.Statement (.c0011001 dest jump) := encode_comp_row rfl rfl

theorem Encoding.c0011010 (dest : Dest) (jump : Jump) : Encoding.Statement (.c0011010 dest jump) := encode_comp_row rfl rfl

theorem Encoding.c0011011 (dest : Dest) (jump : Jump) : Encoding.Statement (.c0011011 dest jump) := encode_comp_row rfl rfl

theorem Encoding.c0011100 (dest : Dest) (jump : Jump) : Encoding.Statement (.c0011100 dest jump) := encode_comp_row rfl rfl

theorem Encoding.c0011101 (dest : Dest) (jump : Jump) : Encoding.Statement (.c0011101 dest jump) := encode_comp_row rfl rfl

theorem Encoding.c0011110 (dest : Dest) (jump : Jump) : Encoding.Statement (.c0011110 dest jump) := encode_comp_row rfl rfl

theorem Encoding.dPlus1 (dest : Dest) (jump : Jump) : Encoding.Statement (.dPlus1 dest jump) := encode_comp_row rfl rfl

theorem Encoding.c0100000 (dest : Dest) (jump : Jump) : Encoding.Statement (.c0100000 dest jump) := encode_comp_row rfl rfl

theorem Encoding.c0100001 (dest : Dest) (jump : Jump) : Encoding.Statement (.c0100001 dest jump) := encode_comp_row rfl rfl

theorem Encoding.c0100010 (dest : Dest) (jump : Jump) : Encoding.Statement (.c0100010 dest jump) := encode_comp_row rfl rfl

theorem Encoding.c0100011 (dest : Dest) (jump : Jump) : Encoding.Statement (.c0100011 dest jump) := encode_comp_row rfl rfl

theorem Encoding.c0100100 (dest : Dest) (jump : Jump) : Encoding.Statement (.c0100100 dest jump) := encode_comp_row rfl rfl

theorem Encoding.c0100101 (dest : Dest) (jump : Jump) : Encoding.Statement (.c0100101 dest jump) := encode_comp_row rfl rfl

theorem Encoding.c0100110 (dest : Dest) (jump : Jump) : Encoding.Statement (.c0100110 dest jump) := encode_comp_row rfl rfl

theorem Encoding.c0100111 (dest : Dest) (jump : Jump) : Encoding.Statement (.c0100111 dest jump) := encode_comp_row rfl rfl

theorem Encoding.c0101000 (dest : Dest) (jump : Jump) : Encoding.Statement (.c0101000 dest jump) := encode_comp_row rfl rfl

theorem Encoding.c0101001 (dest : Dest) (jump : Jump) : Encoding.Statement (.c0101001 dest jump) := encode_comp_row rfl rfl

theorem Encoding.zero (dest : Dest) (jump : Jump) : Encoding.Statement (.zero dest jump) := encode_comp_row rfl rfl

theorem Encoding.c0101011 (dest : Dest) (jump : Jump) : Encoding.Statement (.c0101011 dest jump) := encode_comp_row rfl rfl

theorem Encoding.c0101100 (dest : Dest) (jump : Jump) : Encoding.Statement (.c0101100 dest jump) := encode_comp_row rfl rfl

theorem Encoding.c0101101 (dest : Dest) (jump : Jump) : Encoding.Statement (.c0101101 dest jump) := encode_comp_row rfl rfl

theorem Encoding.c0101110 (dest : Dest) (jump : Jump) : Encoding.Statement (.c0101110 dest jump) := encode_comp_row rfl rfl

theorem Encoding.c0101111 (dest : Dest) (jump : Jump) : Encoding.Statement (.c0101111 dest jump) := encode_comp_row rfl rfl

theorem Encoding.compA (dest : Dest) (jump : Jump) : Encoding.Statement (.compA dest jump) := encode_comp_row rfl rfl

theorem Encoding.notA (dest : Dest) (jump : Jump) : Encoding.Statement (.notA dest jump) := encode_comp_row rfl rfl

theorem Encoding.aMinus1 (dest : Dest) (jump : Jump) : Encoding.Statement (.aMinus1 dest jump) := encode_comp_row rfl rfl

theorem Encoding.negA (dest : Dest) (jump : Jump) : Encoding.Statement (.negA dest jump) := encode_comp_row rfl rfl

theorem Encoding.c0110100 (dest : Dest) (jump : Jump) : Encoding.Statement (.c0110100 dest jump) := encode_comp_row rfl rfl

theorem Encoding.c0110101 (dest : Dest) (jump : Jump) : Encoding.Statement (.c0110101 dest jump) := encode_comp_row rfl rfl

theorem Encoding.c0110110 (dest : Dest) (jump : Jump) : Encoding.Statement (.c0110110 dest jump) := encode_comp_row rfl rfl

theorem Encoding.aPlus1 (dest : Dest) (jump : Jump) : Encoding.Statement (.aPlus1 dest jump) := encode_comp_row rfl rfl

theorem Encoding.c0111000 (dest : Dest) (jump : Jump) : Encoding.Statement (.c0111000 dest jump) := encode_comp_row rfl rfl

theorem Encoding.c0111001 (dest : Dest) (jump : Jump) : Encoding.Statement (.c0111001 dest jump) := encode_comp_row rfl rfl

theorem Encoding.minus1 (dest : Dest) (jump : Jump) : Encoding.Statement (.minus1 dest jump) := encode_comp_row rfl rfl

theorem Encoding.c0111011 (dest : Dest) (jump : Jump) : Encoding.Statement (.c0111011 dest jump) := encode_comp_row rfl rfl

theorem Encoding.c0111100 (dest : Dest) (jump : Jump) : Encoding.Statement (.c0111100 dest jump) := encode_comp_row rfl rfl

theorem Encoding.c0111101 (dest : Dest) (jump : Jump) : Encoding.Statement (.c0111101 dest jump) := encode_comp_row rfl rfl

theorem Encoding.c0111110 (dest : Dest) (jump : Jump) : Encoding.Statement (.c0111110 dest jump) := encode_comp_row rfl rfl

theorem Encoding.one (dest : Dest) (jump : Jump) : Encoding.Statement (.one dest jump) := encode_comp_row rfl rfl

theorem Encoding.dAndM (dest : Dest) (jump : Jump) : Encoding.Statement (.dAndM dest jump) := encode_comp_row rfl rfl

theorem Encoding.c1000001 (dest : Dest) (jump : Jump) : Encoding.Statement (.c1000001 dest jump) := encode_comp_row rfl rfl

theorem Encoding.dPlusM (dest : Dest) (jump : Jump) : Encoding.Statement (.dPlusM dest jump) := encode_comp_row rfl rfl

theorem Encoding.c1000011 (dest : Dest) (jump : Jump) : Encoding.Statement (.c1000011 dest jump) := encode_comp_row rfl rfl

theorem Encoding.c1000100 (dest : Dest) (jump : Jump) : Encoding.Statement (.c1000100 dest jump) := encode_comp_row rfl rfl

theorem Encoding.c1000101 (dest : Dest) (jump : Jump) : Encoding.Statement (.c1000101 dest jump) := encode_comp_row rfl rfl

theorem Encoding.c1000110 (dest : Dest) (jump : Jump) : Encoding.Statement (.c1000110 dest jump) := encode_comp_row rfl rfl

theorem Encoding.mMinusD (dest : Dest) (jump : Jump) : Encoding.Statement (.mMinusD dest jump) := encode_comp_row rfl rfl

theorem Encoding.c1001000 (dest : Dest) (jump : Jump) : Encoding.Statement (.c1001000 dest jump) := encode_comp_row rfl rfl

theorem Encoding.c1001001 (dest : Dest) (jump : Jump) : Encoding.Statement (.c1001001 dest jump) := encode_comp_row rfl rfl

theorem Encoding.c1001010 (dest : Dest) (jump : Jump) : Encoding.Statement (.c1001010 dest jump) := encode_comp_row rfl rfl

theorem Encoding.c1001011 (dest : Dest) (jump : Jump) : Encoding.Statement (.c1001011 dest jump) := encode_comp_row rfl rfl

theorem Encoding.c1001100 (dest : Dest) (jump : Jump) : Encoding.Statement (.c1001100 dest jump) := encode_comp_row rfl rfl

theorem Encoding.c1001101 (dest : Dest) (jump : Jump) : Encoding.Statement (.c1001101 dest jump) := encode_comp_row rfl rfl

theorem Encoding.c1001110 (dest : Dest) (jump : Jump) : Encoding.Statement (.c1001110 dest jump) := encode_comp_row rfl rfl

theorem Encoding.c1001111 (dest : Dest) (jump : Jump) : Encoding.Statement (.c1001111 dest jump) := encode_comp_row rfl rfl

theorem Encoding.c1010000 (dest : Dest) (jump : Jump) : Encoding.Statement (.c1010000 dest jump) := encode_comp_row rfl rfl

theorem Encoding.c1010001 (dest : Dest) (jump : Jump) : Encoding.Statement (.c1010001 dest jump) := encode_comp_row rfl rfl

theorem Encoding.c1010010 (dest : Dest) (jump : Jump) : Encoding.Statement (.c1010010 dest jump) := encode_comp_row rfl rfl

theorem Encoding.dMinusM (dest : Dest) (jump : Jump) : Encoding.Statement (.dMinusM dest jump) := encode_comp_row rfl rfl

theorem Encoding.c1010100 (dest : Dest) (jump : Jump) : Encoding.Statement (.c1010100 dest jump) := encode_comp_row rfl rfl

theorem Encoding.dOrM (dest : Dest) (jump : Jump) : Encoding.Statement (.dOrM dest jump) := encode_comp_row rfl rfl

theorem Encoding.c1010110 (dest : Dest) (jump : Jump) : Encoding.Statement (.c1010110 dest jump) := encode_comp_row rfl rfl

theorem Encoding.c1010111 (dest : Dest) (jump : Jump) : Encoding.Statement (.c1010111 dest jump) := encode_comp_row rfl rfl

theorem Encoding.c1011000 (dest : Dest) (jump : Jump) : Encoding.Statement (.c1011000 dest jump) := encode_comp_row rfl rfl

theorem Encoding.c1011001 (dest : Dest) (jump : Jump) : Encoding.Statement (.c1011001 dest jump) := encode_comp_row rfl rfl

theorem Encoding.c1011010 (dest : Dest) (jump : Jump) : Encoding.Statement (.c1011010 dest jump) := encode_comp_row rfl rfl

theorem Encoding.c1011011 (dest : Dest) (jump : Jump) : Encoding.Statement (.c1011011 dest jump) := encode_comp_row rfl rfl

theorem Encoding.c1011100 (dest : Dest) (jump : Jump) : Encoding.Statement (.c1011100 dest jump) := encode_comp_row rfl rfl

theorem Encoding.c1011101 (dest : Dest) (jump : Jump) : Encoding.Statement (.c1011101 dest jump) := encode_comp_row rfl rfl

theorem Encoding.c1011110 (dest : Dest) (jump : Jump) : Encoding.Statement (.c1011110 dest jump) := encode_comp_row rfl rfl

theorem Encoding.c1011111 (dest : Dest) (jump : Jump) : Encoding.Statement (.c1011111 dest jump) := encode_comp_row rfl rfl

theorem Encoding.c1100000 (dest : Dest) (jump : Jump) : Encoding.Statement (.c1100000 dest jump) := encode_comp_row rfl rfl

theorem Encoding.c1100001 (dest : Dest) (jump : Jump) : Encoding.Statement (.c1100001 dest jump) := encode_comp_row rfl rfl

theorem Encoding.c1100010 (dest : Dest) (jump : Jump) : Encoding.Statement (.c1100010 dest jump) := encode_comp_row rfl rfl

theorem Encoding.c1100011 (dest : Dest) (jump : Jump) : Encoding.Statement (.c1100011 dest jump) := encode_comp_row rfl rfl

theorem Encoding.c1100100 (dest : Dest) (jump : Jump) : Encoding.Statement (.c1100100 dest jump) := encode_comp_row rfl rfl

theorem Encoding.c1100101 (dest : Dest) (jump : Jump) : Encoding.Statement (.c1100101 dest jump) := encode_comp_row rfl rfl

theorem Encoding.c1100110 (dest : Dest) (jump : Jump) : Encoding.Statement (.c1100110 dest jump) := encode_comp_row rfl rfl

theorem Encoding.c1100111 (dest : Dest) (jump : Jump) : Encoding.Statement (.c1100111 dest jump) := encode_comp_row rfl rfl

theorem Encoding.c1101000 (dest : Dest) (jump : Jump) : Encoding.Statement (.c1101000 dest jump) := encode_comp_row rfl rfl

theorem Encoding.c1101001 (dest : Dest) (jump : Jump) : Encoding.Statement (.c1101001 dest jump) := encode_comp_row rfl rfl

theorem Encoding.c1101010 (dest : Dest) (jump : Jump) : Encoding.Statement (.c1101010 dest jump) := encode_comp_row rfl rfl

theorem Encoding.c1101011 (dest : Dest) (jump : Jump) : Encoding.Statement (.c1101011 dest jump) := encode_comp_row rfl rfl

theorem Encoding.c1101100 (dest : Dest) (jump : Jump) : Encoding.Statement (.c1101100 dest jump) := encode_comp_row rfl rfl

theorem Encoding.c1101101 (dest : Dest) (jump : Jump) : Encoding.Statement (.c1101101 dest jump) := encode_comp_row rfl rfl

theorem Encoding.c1101110 (dest : Dest) (jump : Jump) : Encoding.Statement (.c1101110 dest jump) := encode_comp_row rfl rfl

theorem Encoding.c1101111 (dest : Dest) (jump : Jump) : Encoding.Statement (.c1101111 dest jump) := encode_comp_row rfl rfl

theorem Encoding.compM (dest : Dest) (jump : Jump) : Encoding.Statement (.compM dest jump) := encode_comp_row rfl rfl

theorem Encoding.notM (dest : Dest) (jump : Jump) : Encoding.Statement (.notM dest jump) := encode_comp_row rfl rfl

theorem Encoding.mMinus1 (dest : Dest) (jump : Jump) : Encoding.Statement (.mMinus1 dest jump) := encode_comp_row rfl rfl

theorem Encoding.negM (dest : Dest) (jump : Jump) : Encoding.Statement (.negM dest jump) := encode_comp_row rfl rfl

theorem Encoding.c1110100 (dest : Dest) (jump : Jump) : Encoding.Statement (.c1110100 dest jump) := encode_comp_row rfl rfl

theorem Encoding.c1110101 (dest : Dest) (jump : Jump) : Encoding.Statement (.c1110101 dest jump) := encode_comp_row rfl rfl

theorem Encoding.c1110110 (dest : Dest) (jump : Jump) : Encoding.Statement (.c1110110 dest jump) := encode_comp_row rfl rfl

theorem Encoding.mPlus1 (dest : Dest) (jump : Jump) : Encoding.Statement (.mPlus1 dest jump) := encode_comp_row rfl rfl

theorem Encoding.c1111000 (dest : Dest) (jump : Jump) : Encoding.Statement (.c1111000 dest jump) := encode_comp_row rfl rfl

theorem Encoding.c1111001 (dest : Dest) (jump : Jump) : Encoding.Statement (.c1111001 dest jump) := encode_comp_row rfl rfl

theorem Encoding.c1111010 (dest : Dest) (jump : Jump) : Encoding.Statement (.c1111010 dest jump) := encode_comp_row rfl rfl

theorem Encoding.c1111011 (dest : Dest) (jump : Jump) : Encoding.Statement (.c1111011 dest jump) := encode_comp_row rfl rfl

theorem Encoding.c1111100 (dest : Dest) (jump : Jump) : Encoding.Statement (.c1111100 dest jump) := encode_comp_row rfl rfl

theorem Encoding.c1111101 (dest : Dest) (jump : Jump) : Encoding.Statement (.c1111101 dest jump) := encode_comp_row rfl rfl

theorem Encoding.c1111110 (dest : Dest) (jump : Jump) : Encoding.Statement (.c1111110 dest jump) := encode_comp_row rfl rfl

theorem Encoding.c1111111 (dest : Dest) (jump : Jump) : Encoding.Statement (.c1111111 dest jump) := encode_comp_row rfl rfl

end Sys2Proof.Laws
end

