-- ==== Sys2Proof/Tests/Slice0.lean ====
section
/-! SUPPORT. The model's own tests.  Every expected value is the spec's (95_test_vectors.md S1 to S9, V1 to V10; the worked
examples of 44_compute_functions.md; the bit positions of 30_encoding.md §1), never the model's own answer.  The last part
gives, for each obligation with hypotheses, a state and operands that meet all of them. -/

namespace Sys2Proof.Tests

open Sys2Proof.Machine
open Host (Outcome)

/-! ### Helpers -/

/-- A state between steps with the given registers and RAM. -/
def at_ (a d pc inM : Word) (ram : Memory) : State :=
  { State.reset with A := a, D := d, PC := pc, inM := inM, pc := low15 pc, addressM := low15 a, ram := ram }

/-- One step of a state with an instruction word placed where it fetches; the state itself where a step does not complete. -/
def after (s : State) (w : Nat) : State :=
  match step (s.withFetchWord 16 w) with
  | .next t => t
  | .fault _ => s
  | .refused _ => s

/-- `A`, `D`, `PC` and `inM`. -/
def regs (s : State) : Word × Word × Word × Word := (s.A, s.D, s.PC, s.inM)

/-- `A`, `D` and `PC`. -/
def regs3 (s : State) : Word × Word × Word := (s.A, s.D, s.PC)

/-- The outcome of a step as a row of V6 gives it: the registers after it, the write request and `outM`. -/
def row (s : State) (w : Nat) : (Word × Word × Word × Word) × Signal × Word :=
  (regs (after s w), (ports (BitVec.ofNat 16 w) s).writeM, (ports (BitVec.ofNat 16 w) s).outM)

/-- Destination `D` alone. -/
def toD : Dest := ⟨false, true, false⟩

/-- No destination. -/
def toNone : Dest := ⟨false, false, false⟩

/-- `D` after an instruction with `x = D` and `y` in `A`, another word in `inM`. -/
def withA (i : Instr) (x y : Word) : Word :=
  match exec i (at_ y x 0#16 (~~~y) []) with
  | .next t => t.D
  | .fault _ => ~~~x
  | .refused _ => ~~~x

/-- `D` after an instruction with `x = D` and `y` in `inM`, another word in `A`. -/
def withM (i : Instr) (x y : Word) : Word :=
  match exec i (at_ (~~~y) x 0#16 y []) with
  | .next t => t.D
  | .fault _ => ~~~x
  | .refused _ => ~~~x

/-! ### Well-formedness: each check refuses an ill-formed term and takes a well-formed one -/

theorem test_wf_wordLine : wordLineWf "0000000000000101".toList = true ∧ wordLineWf "000000000000010".toList = false ∧
    wordLineWf "000000000000010x".toList = false := by decide

theorem test_wf_sourceLine : sourceLineWf "101".toList = true ∧ sourceLineWf "".toList = true ∧
    sourceLineWf "0000000000000101".toList = true ∧ sourceLineWf "00000000000001010".toList = false ∧
    sourceLineWf "000000000000010x".toList = false := by decide

theorem test_wf_romImage : romImageWf (List.replicate 32768 0#16) = true ∧
    romImageWf (List.replicate 32769 0#16) = false := by
  simp only [romImageWf, List.length_replicate]; decide

theorem test_wf_romBytes : romBytesWf [0#8, 1#8] = true ∧ romBytesWf [0#8, 1#8, 2#8] = false ∧
    romBytesWf (List.replicate 65538 0#8) = false := by
  simp only [romBytesWf, List.length_replicate]; decide

theorem test_wf_memory : Memory.wf 16384 [(0, 1#16), (16383, 2#16)] = true ∧ Memory.wf 16384 [(16384, 1#16)] = false ∧
    Memory.wf 16384 [(3, 1#16), (2, 1#16)] = false ∧ Memory.wf 16384 [(3, 0#16)] = false := by decide

theorem test_wf_instr (i : Instr) : i.wf = true := rfl

/-! ### Decoding: one word of each row, bits 15, 14..13, 12, 11..6, 5..3, 2..0 in the order of tables R82 and R83 -/

theorem test_decode_load : decodeWord 0b0000000000000000#16 = .loadAddr 0#15 ∧
    decodeWord 0b0111111111111111#16 = .loadAddr 32767#15 ∧ decodeWord 0b0010101111001101#16 = .loadAddr 11213#15 := by
  decide

theorem test_decode_a0_00xxxx :
    decodeWord 0b1110000000000000#16 = .dAndA ⟨false, false, false⟩ .never ∧
    decodeWord 0b1110000001011001#16 = .c0000001 ⟨false, true, true⟩ .jgt ∧
    decodeWord 0b1110000010101010#16 = .dPlusA ⟨true, false, true⟩ .jeq ∧
    decodeWord 0b1110000011000011#16 = .c0000011 ⟨false, false, false⟩ .jge ∧
    decodeWord 0b1110000100010100#16 = .c0000100 ⟨false, true, false⟩ .jlt ∧
    decodeWord 0b1110000101101101#16 = .c0000101 ⟨true, false, true⟩ .jne ∧
    decodeWord 0b1110000110111110#16 = .c0000110 ⟨true, true, true⟩ .jle ∧
    decodeWord 0b1010000111010111#16 = .aMinusD ⟨false, true, false⟩ .jmp ∧
    decodeWord 0b1110001000100000#16 = .c0001000 ⟨true, false, false⟩ .never ∧
    decodeWord 0b1110001001111001#16 = .c0001001 ⟨true, true, true⟩ .jgt ∧
    decodeWord 0b1110001010001010#16 = .c0001010 ⟨false, false, true⟩ .jeq ∧
    decodeWord 0b1110001011100011#16 = .c0001011 ⟨true, false, false⟩ .jge ∧
    decodeWord 0b1110001100110100#16 = .compD ⟨true, true, false⟩ .jlt ∧
    decodeWord 0b1110001101001101#16 = .notD ⟨false, false, true⟩ .jne ∧
    decodeWord 0b1100001110011110#16 = .dMinus1 ⟨false, true, true⟩ .jle ∧
    decodeWord 0b1110001111110111#16 = .negD ⟨true, true, false⟩ .jmp := by decide

theorem test_decode_a0_01xxxx :
    decodeWord 0b1110010000000000#16 = .c0010000 ⟨false, false, false⟩ .never ∧
    decodeWord 0b1110010001011001#16 = .c0010001 ⟨false, true, true⟩ .jgt ∧
    decodeWord 0b1110010010101010#16 = .c0010010 ⟨true, false, true⟩ .jeq ∧
    decodeWord 0b1110010011000011#16 = .dMinusA ⟨false, false, false⟩ .jge ∧
    decodeWord 0b1110010100010100#16 = .c0010100 ⟨false, true, false⟩ .jlt ∧
    decodeWord 0b1000010101101101#16 = .dOrA ⟨true, false, true⟩ .jne ∧
    decodeWord 0b1110010110111110#16 = .c0010110 ⟨true, true, true⟩ .jle ∧
    decodeWord 0b1110010111010111#16 = .c0010111 ⟨false, true, false⟩ .jmp ∧
    decodeWord 0b1110011000100000#16 = .c0011000 ⟨true, false, false⟩ .never ∧
    decodeWord 0b1110011001111001#16 = .c0011001 ⟨true, true, true⟩ .jgt ∧
    decodeWord 0b1110011010001010#16 = .c0011010 ⟨false, false, true⟩ .jeq ∧
    decodeWord 0b1110011011100011#16 = .c0011011 ⟨true, false, false⟩ .jge ∧
    decodeWord 0b1110011100110100#16 = .c0011100 ⟨true, true, false⟩ .jlt ∧
    decodeWord 0b1110011101001101#16 = .c0011101 ⟨false, false, true⟩ .jne ∧
    decodeWord 0b1110011110011110#16 = .c0011110 ⟨false, true, true⟩ .jle ∧
    decodeWord 0b1110011111110111#16 = .dPlus1 ⟨true, true, false⟩ .jmp := by decide

theorem test_decode_a0_10xxxx :
    decodeWord 0b1110100000000000#16 = .c0100000 ⟨false, false, false⟩ .never ∧
    decodeWord 0b1110100001011001#16 = .c0100001 ⟨false, true, true⟩ .jgt ∧
    decodeWord 0b1110100010101010#16 = .c0100010 ⟨true, false, true⟩ .jeq ∧
    decodeWord 0b1010100011000011#16 = .c0100011 ⟨false, false, false⟩ .jge ∧
    decodeWord 0b1110100100010100#16 = .c0100100 ⟨false, true, false⟩ .jlt ∧
    decodeWord 0b1110100101101101#16 = .c0100101 ⟨true, false, true⟩ .jne ∧
    decodeWord 0b1110100110111110#16 = .c0100110 ⟨true, true, true⟩ .jle ∧
    decodeWord 0b1110100111010111#16 = .c0100111 ⟨false, true, false⟩ .jmp ∧
    decodeWord 0b1110101000100000#16 = .c0101000 ⟨true, false, false⟩ .never ∧
    decodeWord 0b1110101001111001#16 = .c0101001 ⟨true, true, true⟩ .jgt ∧
    decodeWord 0b1100101010001010#16 = .zero ⟨false, false, true⟩ .jeq ∧
    decodeWord 0b1110101011100011#16 = .c0101011 ⟨true, false, false⟩ .jge ∧
    decodeWord 0b1110101100110100#16 = .c0101100 ⟨true, true, false⟩ .jlt ∧
    decodeWord 0b1110101101001101#16 = .c0101101 ⟨false, false, true⟩ .jne ∧
    decodeWord 0b1110101110011110#16 = .c0101110 ⟨false, true, true⟩ .jle ∧
    decodeWord 0b1110101111110111#16 = .c0101111 ⟨true, true, false⟩ .jmp := by decide

theorem test_decode_a0_11xxxx :
    decodeWord 0b1110110000000000#16 = .compA ⟨false, false, false⟩ .never ∧
    decodeWord 0b1000110001011001#16 = .notA ⟨false, true, true⟩ .jgt ∧
    decodeWord 0b1110110010101010#16 = .aMinus1 ⟨true, false, true⟩ .jeq ∧
    decodeWord 0b1110110011000011#16 = .negA ⟨false, false, false⟩ .jge ∧
    decodeWord 0b1110110100010100#16 = .c0110100 ⟨false, true, false⟩ .jlt ∧
    decodeWord 0b1110110101101101#16 = .c0110101 ⟨true, false, true⟩ .jne ∧
    decodeWord 0b1110110110111110#16 = .c0110110 ⟨true, true, true⟩ .jle ∧
    decodeWord 0b1110110111010111#16 = .aPlus1 ⟨false, true, false⟩ .jmp ∧
    decodeWord 0b1110111000100000#16 = .c0111000 ⟨true, false, false⟩ .never ∧
    decodeWord 0b1110111001111001#16 = .c0111001 ⟨true, true, true⟩ .jgt ∧
    decodeWord 0b1110111010001010#16 = .minus1 ⟨false, false, true⟩ .jeq ∧
    decodeWord 0b1110111011100011#16 = .c0111011 ⟨true, false, false⟩ .jge ∧
    decodeWord 0b1110111100110100#16 = .c0111100 ⟨true, true, false⟩ .jlt ∧
    decodeWord 0b1110111101001101#16 = .c0111101 ⟨false, false, true⟩ .jne ∧
    decodeWord 0b1110111110011110#16 = .c0111110 ⟨false, true, true⟩ .jle ∧
    decodeWord 0b1010111111110111#16 = .one ⟨true, true, false⟩ .jmp := by decide

theorem test_decode_a1_00xxxx :
    decodeWord 0b1111000000010001#16 = .dAndM ⟨false, true, false⟩ .jgt ∧
    decodeWord 0b1111000001100010#16 = .c1000001 ⟨true, false, false⟩ .jeq ∧
    decodeWord 0b1111000010111011#16 = .dPlusM ⟨true, true, true⟩ .jge ∧
    decodeWord 0b1111000011001100#16 = .c1000011 ⟨false, false, true⟩ .jlt ∧
    decodeWord 0b1111000100100101#16 = .c1000100 ⟨true, false, false⟩ .jne ∧
    decodeWord 0b1111000101110110#16 = .c1000101 ⟨true, true, false⟩ .jle ∧
    decodeWord 0b1111000110001111#16 = .c1000110 ⟨false, false, true⟩ .jmp ∧
    decodeWord 0b1011000111011000#16 = .mMinusD ⟨false, true, true⟩ .never ∧
    decodeWord 0b1111001000110001#16 = .c1001000 ⟨true, true, false⟩ .jgt ∧
    decodeWord 0b1111001001000010#16 = .c1001001 ⟨false, false, false⟩ .jeq ∧
    decodeWord 0b1111001010011011#16 = .c1001010 ⟨false, true, true⟩ .jge ∧
    decodeWord 0b1111001011101100#16 = .c1001011 ⟨true, false, true⟩ .jlt ∧
    decodeWord 0b1111001100000101#16 = .c1001100 ⟨false, false, false⟩ .jne ∧
    decodeWord 0b1111001101010110#16 = .c1001101 ⟨false, true, false⟩ .jle ∧
    decodeWord 0b1101001110101111#16 = .c1001110 ⟨true, false, true⟩ .jmp ∧
    decodeWord 0b1111001111111000#16 = .c1001111 ⟨true, true, true⟩ .never := by decide

theorem test_decode_a1_01xxxx :
    decodeWord 0b1111010000010001#16 = .c1010000 ⟨false, true, false⟩ .jgt ∧
    decodeWord 0b1111010001100010#16 = .c1010001 ⟨true, false, false⟩ .jeq ∧
    decodeWord 0b1111010010111011#16 = .c1010010 ⟨true, true, true⟩ .jge ∧
    decodeWord 0b1111010011001100#16 = .dMinusM ⟨false, false, true⟩ .jlt ∧
    decodeWord 0b1111010100100101#16 = .c1010100 ⟨true, false, false⟩ .jne ∧
    decodeWord 0b1001010101110110#16 = .dOrM ⟨true, true, false⟩ .jle ∧
    decodeWord 0b1111010110001111#16 = .c1010110 ⟨false, false, true⟩ .jmp ∧
    decodeWord 0b1111010111011000#16 = .c1010111 ⟨false, true, true⟩ .never ∧
    decodeWord 0b1111011000110001#16 = .c1011000 ⟨true, true, false⟩ .jgt ∧
    decodeWord 0b1111011001000010#16 = .c1011001 ⟨false, false, false⟩ .jeq ∧
    decodeWord 0b1111011010011011#16 = .c1011010 ⟨false, true, true⟩ .jge ∧
    decodeWord 0b1111011011101100#16 = .c1011011 ⟨true, false, true⟩ .jlt ∧
    decodeWord 0b1111011100000101#16 = .c1011100 ⟨false, false, false⟩ .jne ∧
    decodeWord 0b1111011101010110#16 = .c1011101 ⟨false, true, false⟩ .jle ∧
    decodeWord 0b1111011110101111#16 = .c1011110 ⟨true, false, true⟩ .jmp ∧
    decodeWord 0b1111011111111000#16 = .c1011111 ⟨true, true, true⟩ .never := by decide

theorem test_decode_a1_10xxxx :
    decodeWord 0b1111100000010001#16 = .c1100000 ⟨false, true, false⟩ .jgt ∧
    decodeWord 0b1111100001100010#16 = .c1100001 ⟨true, false, false⟩ .jeq ∧
    decodeWord 0b1111100010111011#16 = .c1100010 ⟨true, true, true⟩ .jge ∧
    decodeWord 0b1011100011001100#16 = .c1100011 ⟨false, false, true⟩ .jlt ∧
    decodeWord 0b1111100100100101#16 = .c1100100 ⟨true, false, false⟩ .jne ∧
    decodeWord 0b1111100101110110#16 = .c1100101 ⟨true, true, false⟩ .jle ∧
    decodeWord 0b1111100110001111#16 = .c1100110 ⟨false, false, true⟩ .jmp ∧
    decodeWord 0b1111100111011000#16 = .c1100111 ⟨false, true, true⟩ .never ∧
    decodeWord 0b1111101000110001#16 = .c1101000 ⟨true, true, false⟩ .jgt ∧
    decodeWord 0b1111101001000010#16 = .c1101001 ⟨false, false, false⟩ .jeq ∧
    decodeWord 0b1101101010011011#16 = .c1101010 ⟨false, true, true⟩ .jge ∧
    decodeWord 0b1111101011101100#16 = .c1101011 ⟨true, false, true⟩ .jlt ∧
    decodeWord 0b1111101100000101#16 = .c1101100 ⟨false, false, false⟩ .jne ∧
    decodeWord 0b1111101101010110#16 = .c1101101 ⟨false, true, false⟩ .jle ∧
    decodeWord 0b1111101110101111#16 = .c1101110 ⟨true, false, true⟩ .jmp ∧
    decodeWord 0b1111101111111000#16 = .c1101111 ⟨true, true, true⟩ .never := by decide

theorem test_decode_a1_11xxxx :
    decodeWord 0b1111110000010001#16 = .compM ⟨false, true, false⟩ .jgt ∧
    decodeWord 0b1001110001100010#16 = .notM ⟨true, false, false⟩ .jeq ∧
    decodeWord 0b1111110010111011#16 = .mMinus1 ⟨true, true, true⟩ .jge ∧
    decodeWord 0b1111110011001100#16 = .negM ⟨false, false, true⟩ .jlt ∧
    decodeWord 0b1111110100100101#16 = .c1110100 ⟨true, false, false⟩ .jne ∧
    decodeWord 0b1111110101110110#16 = .c1110101 ⟨true, true, false⟩ .jle ∧
    decodeWord 0b1111110110001111#16 = .c1110110 ⟨false, false, true⟩ .jmp ∧
    decodeWord 0b1111110111011000#16 = .mPlus1 ⟨false, true, true⟩ .never ∧
    decodeWord 0b1111111000110001#16 = .c1111000 ⟨true, true, false⟩ .jgt ∧
    decodeWord 0b1111111001000010#16 = .c1111001 ⟨false, false, false⟩ .jeq ∧
    decodeWord 0b1111111010011011#16 = .c1111010 ⟨false, true, true⟩ .jge ∧
    decodeWord 0b1111111011101100#16 = .c1111011 ⟨true, false, true⟩ .jlt ∧
    decodeWord 0b1111111100000101#16 = .c1111100 ⟨false, false, false⟩ .jne ∧
    decodeWord 0b1111111101010110#16 = .c1111101 ⟨false, true, false⟩ .jle ∧
    decodeWord 0b1111111110101111#16 = .c1111110 ⟨true, false, true⟩ .jmp ∧
    decodeWord 0b1011111111111000#16 = .c1111111 ⟨true, true, true⟩ .never := by decide

/-- Words that are not there are rejected by name. -/
theorem test_decode_none : decode [] = .error .noWord := rfl

/-- A table word of fewer bits than an instruction has zeros above them. -/
theorem test_decodeTableWord : decodeTableWord 16 0xFC10 = some (.compM ⟨false, true, false⟩ .never) ∧
    decodeTableWord 8 0xFC10 = some (.loadAddr 0x10#15) := by decide

theorem test_encode : encodeWord (.loadAddr 24576#15) = 0x6000#16 ∧
    encodeWord (.compM ⟨false, true, false⟩ .never) = 0xFC10#16 ∧
    encodeWord (.dMinusM ⟨false, true, false⟩ .never) = 0xF4D0#16 ∧
    encodeWord (.compD ⟨false, false, false⟩ .jgt) = 0xE301#16 ∧
    encodeWord (.mPlus1 ⟨true, false, true⟩ .never) = 0xFDE8#16 := by decide

/-! ### Results: the two worked examples of each rule R300 to R363, for the row with `a` = 0 and the row with `a` = 1 -/

theorem test_result_a0_000xxx :
    withA (.dAndA toD .never) 0x0005#16 0x0003#16 = 0x0001#16 ∧
    withA (.dAndA toD .never) 0x8000#16 0xFFFF#16 = 0x8000#16 ∧
    withA (.c0000001 toD .never) 0x0005#16 0x0003#16 = 0xFFFE#16 ∧
    withA (.c0000001 toD .never) 0x8000#16 0xFFFF#16 = 0x7FFF#16 ∧
    withA (.dPlusA toD .never) 0x0005#16 0x0003#16 = 0x0008#16 ∧
    withA (.dPlusA toD .never) 0x8000#16 0xFFFF#16 = 0x7FFF#16 ∧
    withA (.c0000011 toD .never) 0x0005#16 0x0003#16 = 0xFFF7#16 ∧
    withA (.c0000011 toD .never) 0x8000#16 0xFFFF#16 = 0x8000#16 ∧
    withA (.c0000100 toD .never) 0x0005#16 0x0003#16 = 0x0004#16 ∧
    withA (.c0000100 toD .never) 0x8000#16 0xFFFF#16 = 0x0000#16 ∧
    withA (.c0000101 toD .never) 0x0005#16 0x0003#16 = 0xFFFB#16 ∧
    withA (.c0000101 toD .never) 0x8000#16 0xFFFF#16 = 0xFFFF#16 ∧
    withA (.c0000110 toD .never) 0x0005#16 0x0003#16 = 0x0001#16 ∧
    withA (.c0000110 toD .never) 0x8000#16 0xFFFF#16 = 0x8000#16 ∧
    withA (.aMinusD toD .never) 0x0005#16 0x0003#16 = 0xFFFE#16 ∧
    withA (.aMinusD toD .never) 0x8000#16 0xFFFF#16 = 0x7FFF#16 := by decide

theorem test_result_a0_001xxx :
    withA (.c0001000 toD .never) 0x0005#16 0x0003#16 = 0x0000#16 ∧
    withA (.c0001000 toD .never) 0x8000#16 0xFFFF#16 = 0x0000#16 ∧
    withA (.c0001001 toD .never) 0x0005#16 0x0003#16 = 0xFFFF#16 ∧
    withA (.c0001001 toD .never) 0x8000#16 0xFFFF#16 = 0xFFFF#16 ∧
    withA (.c0001010 toD .never) 0x0005#16 0x0003#16 = 0x0005#16 ∧
    withA (.c0001010 toD .never) 0x8000#16 0xFFFF#16 = 0x8000#16 ∧
    withA (.c0001011 toD .never) 0x0005#16 0x0003#16 = 0xFFFA#16 ∧
    withA (.c0001011 toD .never) 0x8000#16 0xFFFF#16 = 0x7FFF#16 ∧
    withA (.compD toD .never) 0x0005#16 0x0003#16 = 0x0005#16 ∧
    withA (.compD toD .never) 0x8000#16 0xFFFF#16 = 0x8000#16 ∧
    withA (.notD toD .never) 0x0005#16 0x0003#16 = 0xFFFA#16 ∧
    withA (.notD toD .never) 0x8000#16 0xFFFF#16 = 0x7FFF#16 ∧
    withA (.dMinus1 toD .never) 0x0005#16 0x0003#16 = 0x0004#16 ∧
    withA (.dMinus1 toD .never) 0x8000#16 0xFFFF#16 = 0x7FFF#16 ∧
    withA (.negD toD .never) 0x0005#16 0x0003#16 = 0xFFFB#16 ∧
    withA (.negD toD .never) 0x8000#16 0xFFFF#16 = 0x8000#16 := by decide

theorem test_result_a0_010xxx :
    withA (.c0010000 toD .never) 0x0005#16 0x0003#16 = 0x0002#16 ∧
    withA (.c0010000 toD .never) 0x8000#16 0xFFFF#16 = 0x7FFF#16 ∧
    withA (.c0010001 toD .never) 0x0005#16 0x0003#16 = 0xFFFD#16 ∧
    withA (.c0010001 toD .never) 0x8000#16 0xFFFF#16 = 0x8000#16 ∧
    withA (.c0010010 toD .never) 0x0005#16 0x0003#16 = 0xFFFD#16 ∧
    withA (.c0010010 toD .never) 0x8000#16 0xFFFF#16 = 0x7FFE#16 ∧
    withA (.dMinusA toD .never) 0x0005#16 0x0003#16 = 0x0002#16 ∧
    withA (.dMinusA toD .never) 0x8000#16 0xFFFF#16 = 0x8001#16 ∧
    withA (.c0010100 toD .never) 0x0005#16 0x0003#16 = 0xFFF8#16 ∧
    withA (.c0010100 toD .never) 0x8000#16 0xFFFF#16 = 0x0000#16 ∧
    withA (.dOrA toD .never) 0x0005#16 0x0003#16 = 0x0007#16 ∧
    withA (.dOrA toD .never) 0x8000#16 0xFFFF#16 = 0xFFFF#16 ∧
    withA (.c0010110 toD .never) 0x0005#16 0x0003#16 = 0xFFF6#16 ∧
    withA (.c0010110 toD .never) 0x8000#16 0xFFFF#16 = 0x7FFF#16 ∧
    withA (.c0010111 toD .never) 0x0005#16 0x0003#16 = 0x0009#16 ∧
    withA (.c0010111 toD .never) 0x8000#16 0xFFFF#16 = 0x8000#16 := by decide

theorem test_result_a0_011xxx :
    withA (.c0011000 toD .never) 0x0005#16 0x0003#16 = 0x0000#16 ∧
    withA (.c0011000 toD .never) 0x8000#16 0xFFFF#16 = 0x0000#16 ∧
    withA (.c0011001 toD .never) 0x0005#16 0x0003#16 = 0xFFFF#16 ∧
    withA (.c0011001 toD .never) 0x8000#16 0xFFFF#16 = 0xFFFF#16 ∧
    withA (.c0011010 toD .never) 0x0005#16 0x0003#16 = 0xFFFA#16 ∧
    withA (.c0011010 toD .never) 0x8000#16 0xFFFF#16 = 0x7FFF#16 ∧
    withA (.c0011011 toD .never) 0x0005#16 0x0003#16 = 0x0005#16 ∧
    withA (.c0011011 toD .never) 0x8000#16 0xFFFF#16 = 0x8000#16 ∧
    withA (.c0011100 toD .never) 0x0005#16 0x0003#16 = 0xFFFA#16 ∧
    withA (.c0011100 toD .never) 0x8000#16 0xFFFF#16 = 0x7FFF#16 ∧
    withA (.c0011101 toD .never) 0x0005#16 0x0003#16 = 0x0005#16 ∧
    withA (.c0011101 toD .never) 0x8000#16 0xFFFF#16 = 0x8000#16 ∧
    withA (.c0011110 toD .never) 0x0005#16 0x0003#16 = 0xFFF9#16 ∧
    withA (.c0011110 toD .never) 0x8000#16 0xFFFF#16 = 0x7FFE#16 ∧
    withA (.dPlus1 toD .never) 0x0005#16 0x0003#16 = 0x0006#16 ∧
    withA (.dPlus1 toD .never) 0x8000#16 0xFFFF#16 = 0x8001#16 := by decide

theorem test_result_a0_100xxx :
    withA (.c0100000 toD .never) 0x0005#16 0x0003#16 = 0x0000#16 ∧
    withA (.c0100000 toD .never) 0x8000#16 0xFFFF#16 = 0x0000#16 ∧
    withA (.c0100001 toD .never) 0x0005#16 0x0003#16 = 0xFFFF#16 ∧
    withA (.c0100001 toD .never) 0x8000#16 0xFFFF#16 = 0xFFFF#16 ∧
    withA (.c0100010 toD .never) 0x0005#16 0x0003#16 = 0x0003#16 ∧
    withA (.c0100010 toD .never) 0x8000#16 0xFFFF#16 = 0xFFFF#16 ∧
    withA (.c0100011 toD .never) 0x0005#16 0x0003#16 = 0xFFFC#16 ∧
    withA (.c0100011 toD .never) 0x8000#16 0xFFFF#16 = 0x0000#16 ∧
    withA (.c0100100 toD .never) 0x0005#16 0x0003#16 = 0x0000#16 ∧
    withA (.c0100100 toD .never) 0x8000#16 0xFFFF#16 = 0x0000#16 ∧
    withA (.c0100101 toD .never) 0x0005#16 0x0003#16 = 0xFFFF#16 ∧
    withA (.c0100101 toD .never) 0x8000#16 0xFFFF#16 = 0xFFFF#16 ∧
    withA (.c0100110 toD .never) 0x0005#16 0x0003#16 = 0xFFFC#16 ∧
    withA (.c0100110 toD .never) 0x8000#16 0xFFFF#16 = 0x0000#16 ∧
    withA (.c0100111 toD .never) 0x0005#16 0x0003#16 = 0x0003#16 ∧
    withA (.c0100111 toD .never) 0x8000#16 0xFFFF#16 = 0xFFFF#16 := by decide

theorem test_result_a0_101xxx :
    withA (.c0101000 toD .never) 0x0005#16 0x0003#16 = 0x0000#16 ∧
    withA (.c0101000 toD .never) 0x8000#16 0xFFFF#16 = 0x0000#16 ∧
    withA (.c0101001 toD .never) 0x0005#16 0x0003#16 = 0xFFFF#16 ∧
    withA (.c0101001 toD .never) 0x8000#16 0xFFFF#16 = 0xFFFF#16 ∧
    withA (.zero toD .never) 0x0005#16 0x0003#16 = 0x0000#16 ∧
    withA (.zero toD .never) 0x8000#16 0xFFFF#16 = 0x0000#16 ∧
    withA (.c0101011 toD .never) 0x0005#16 0x0003#16 = 0xFFFF#16 ∧
    withA (.c0101011 toD .never) 0x8000#16 0xFFFF#16 = 0xFFFF#16 ∧
    withA (.c0101100 toD .never) 0x0005#16 0x0003#16 = 0x0000#16 ∧
    withA (.c0101100 toD .never) 0x8000#16 0xFFFF#16 = 0x0000#16 ∧
    withA (.c0101101 toD .never) 0x0005#16 0x0003#16 = 0xFFFF#16 ∧
    withA (.c0101101 toD .never) 0x8000#16 0xFFFF#16 = 0xFFFF#16 ∧
    withA (.c0101110 toD .never) 0x0005#16 0x0003#16 = 0xFFFF#16 ∧
    withA (.c0101110 toD .never) 0x8000#16 0xFFFF#16 = 0xFFFF#16 ∧
    withA (.c0101111 toD .never) 0x0005#16 0x0003#16 = 0x0000#16 ∧
    withA (.c0101111 toD .never) 0x8000#16 0xFFFF#16 = 0x0000#16 := by decide

theorem test_result_a0_110xxx :
    withA (.compA toD .never) 0x0005#16 0x0003#16 = 0x0003#16 ∧
    withA (.compA toD .never) 0x8000#16 0xFFFF#16 = 0xFFFF#16 ∧
    withA (.notA toD .never) 0x0005#16 0x0003#16 = 0xFFFC#16 ∧
    withA (.notA toD .never) 0x8000#16 0xFFFF#16 = 0x0000#16 ∧
    withA (.aMinus1 toD .never) 0x0005#16 0x0003#16 = 0x0002#16 ∧
    withA (.aMinus1 toD .never) 0x8000#16 0xFFFF#16 = 0xFFFE#16 ∧
    withA (.negA toD .never) 0x0005#16 0x0003#16 = 0xFFFD#16 ∧
    withA (.negA toD .never) 0x8000#16 0xFFFF#16 = 0x0001#16 ∧
    withA (.c0110100 toD .never) 0x0005#16 0x0003#16 = 0xFFFC#16 ∧
    withA (.c0110100 toD .never) 0x8000#16 0xFFFF#16 = 0x0000#16 ∧
    withA (.c0110101 toD .never) 0x0005#16 0x0003#16 = 0x0003#16 ∧
    withA (.c0110101 toD .never) 0x8000#16 0xFFFF#16 = 0xFFFF#16 ∧
    withA (.c0110110 toD .never) 0x0005#16 0x0003#16 = 0xFFFB#16 ∧
    withA (.c0110110 toD .never) 0x8000#16 0xFFFF#16 = 0xFFFF#16 ∧
    withA (.aPlus1 toD .never) 0x0005#16 0x0003#16 = 0x0004#16 ∧
    withA (.aPlus1 toD .never) 0x8000#16 0xFFFF#16 = 0x0000#16 := by decide

theorem test_result_a0_111xxx :
    withA (.c0111000 toD .never) 0x0005#16 0x0003#16 = 0x0000#16 ∧
    withA (.c0111000 toD .never) 0x8000#16 0xFFFF#16 = 0x0000#16 ∧
    withA (.c0111001 toD .never) 0x0005#16 0x0003#16 = 0xFFFF#16 ∧
    withA (.c0111001 toD .never) 0x8000#16 0xFFFF#16 = 0xFFFF#16 ∧
    withA (.minus1 toD .never) 0x0005#16 0x0003#16 = 0xFFFF#16 ∧
    withA (.minus1 toD .never) 0x8000#16 0xFFFF#16 = 0xFFFF#16 ∧
    withA (.c0111011 toD .never) 0x0005#16 0x0003#16 = 0x0000#16 ∧
    withA (.c0111011 toD .never) 0x8000#16 0xFFFF#16 = 0x0000#16 ∧
    withA (.c0111100 toD .never) 0x0005#16 0x0003#16 = 0xFFFF#16 ∧
    withA (.c0111100 toD .never) 0x8000#16 0xFFFF#16 = 0xFFFF#16 ∧
    withA (.c0111101 toD .never) 0x0005#16 0x0003#16 = 0x0000#16 ∧
    withA (.c0111101 toD .never) 0x8000#16 0xFFFF#16 = 0x0000#16 ∧
    withA (.c0111110 toD .never) 0x0005#16 0x0003#16 = 0xFFFE#16 ∧
    withA (.c0111110 toD .never) 0x8000#16 0xFFFF#16 = 0xFFFE#16 ∧
    withA (.one toD .never) 0x0005#16 0x0003#16 = 0x0001#16 ∧
    withA (.one toD .never) 0x8000#16 0xFFFF#16 = 0x0001#16 := by decide

theorem test_result_a1_000xxx :
    withM (.dAndM toD .never) 0x0005#16 0x0003#16 = 0x0001#16 ∧
    withM (.dAndM toD .never) 0x8000#16 0xFFFF#16 = 0x8000#16 ∧
    withM (.c1000001 toD .never) 0x0005#16 0x0003#16 = 0xFFFE#16 ∧
    withM (.c1000001 toD .never) 0x8000#16 0xFFFF#16 = 0x7FFF#16 ∧
    withM (.dPlusM toD .never) 0x0005#16 0x0003#16 = 0x0008#16 ∧
    withM (.dPlusM toD .never) 0x8000#16 0xFFFF#16 = 0x7FFF#16 ∧
    withM (.c1000011 toD .never) 0x0005#16 0x0003#16 = 0xFFF7#16 ∧
    withM (.c1000011 toD .never) 0x8000#16 0xFFFF#16 = 0x8000#16 ∧
    withM (.c1000100 toD .never) 0x0005#16 0x0003#16 = 0x0004#16 ∧
    withM (.c1000100 toD .never) 0x8000#16 0xFFFF#16 = 0x0000#16 ∧
    withM (.c1000101 toD .never) 0x0005#16 0x0003#16 = 0xFFFB#16 ∧
    withM (.c1000101 toD .never) 0x8000#16 0xFFFF#16 = 0xFFFF#16 ∧
    withM (.c1000110 toD .never) 0x0005#16 0x0003#16 = 0x0001#16 ∧
    withM (.c1000110 toD .never) 0x8000#16 0xFFFF#16 = 0x8000#16 ∧
    withM (.mMinusD toD .never) 0x0005#16 0x0003#16 = 0xFFFE#16 ∧
    withM (.mMinusD toD .never) 0x8000#16 0xFFFF#16 = 0x7FFF#16 := by decide

theorem test_result_a1_001xxx :
    withM (.c1001000 toD .never) 0x0005#16 0x0003#16 = 0x0000#16 ∧
    withM (.c1001000 toD .never) 0x8000#16 0xFFFF#16 = 0x0000#16 ∧
    withM (.c1001001 toD .never) 0x0005#16 0x0003#16 = 0xFFFF#16 ∧
    withM (.c1001001 toD .never) 0x8000#16 0xFFFF#16 = 0xFFFF#16 ∧
    withM (.c1001010 toD .never) 0x0005#16 0x0003#16 = 0x0005#16 ∧
    withM (.c1001010 toD .never) 0x8000#16 0xFFFF#16 = 0x8000#16 ∧
    withM (.c1001011 toD .never) 0x0005#16 0x0003#16 = 0xFFFA#16 ∧
    withM (.c1001011 toD .never) 0x8000#16 0xFFFF#16 = 0x7FFF#16 ∧
    withM (.c1001100 toD .never) 0x0005#16 0x0003#16 = 0x0005#16 ∧
    withM (.c1001100 toD .never) 0x8000#16 0xFFFF#16 = 0x8000#16 ∧
    withM (.c1001101 toD .never) 0x0005#16 0x0003#16 = 0xFFFA#16 ∧
    withM (.c1001101 toD .never) 0x8000#16 0xFFFF#16 = 0x7FFF#16 ∧
    withM (.c1001110 toD .never) 0x0005#16 0x0003#16 = 0x0004#16 ∧
    withM (.c1001110 toD .never) 0x8000#16 0xFFFF#16 = 0x7FFF#16 ∧
    withM (.c1001111 toD .never) 0x0005#16 0x0003#16 = 0xFFFB#16 ∧
    withM (.c1001111 toD .never) 0x8000#16 0xFFFF#16 = 0x8000#16 := by decide

theorem test_result_a1_010xxx :
    withM (.c1010000 toD .never) 0x0005#16 0x0003#16 = 0x0002#16 ∧
    withM (.c1010000 toD .never) 0x8000#16 0xFFFF#16 = 0x7FFF#16 ∧
    withM (.c1010001 toD .never) 0x0005#16 0x0003#16 = 0xFFFD#16 ∧
    withM (.c1010001 toD .never) 0x8000#16 0xFFFF#16 = 0x8000#16 ∧
    withM (.c1010010 toD .never) 0x0005#16 0x0003#16 = 0xFFFD#16 ∧
    withM (.c1010010 toD .never) 0x8000#16 0xFFFF#16 = 0x7FFE#16 ∧
    withM (.dMinusM toD .never) 0x0005#16 0x0003#16 = 0x0002#16 ∧
    withM (.dMinusM toD .never) 0x8000#16 0xFFFF#16 = 0x8001#16 ∧
    withM (.c1010100 toD .never) 0x0005#16 0x0003#16 = 0xFFF8#16 ∧
    withM (.c1010100 toD .never) 0x8000#16 0xFFFF#16 = 0x0000#16 ∧
    withM (.dOrM toD .never) 0x0005#16 0x0003#16 = 0x0007#16 ∧
    withM (.dOrM toD .never) 0x8000#16 0xFFFF#16 = 0xFFFF#16 ∧
    withM (.c1010110 toD .never) 0x0005#16 0x0003#16 = 0xFFF6#16 ∧
    withM (.c1010110 toD .never) 0x8000#16 0xFFFF#16 = 0x7FFF#16 ∧
    withM (.c1010111 toD .never) 0x0005#16 0x0003#16 = 0x0009#16 ∧
    withM (.c1010111 toD .never) 0x8000#16 0xFFFF#16 = 0x8000#16 := by decide

theorem test_result_a1_011xxx :
    withM (.c1011000 toD .never) 0x0005#16 0x0003#16 = 0x0000#16 ∧
    withM (.c1011000 toD .never) 0x8000#16 0xFFFF#16 = 0x0000#16 ∧
    withM (.c1011001 toD .never) 0x0005#16 0x0003#16 = 0xFFFF#16 ∧
    withM (.c1011001 toD .never) 0x8000#16 0xFFFF#16 = 0xFFFF#16 ∧
    withM (.c1011010 toD .never) 0x0005#16 0x0003#16 = 0xFFFA#16 ∧
    withM (.c1011010 toD .never) 0x8000#16 0xFFFF#16 = 0x7FFF#16 ∧
    withM (.c1011011 toD .never) 0x0005#16 0x0003#16 = 0x0005#16 ∧
    withM (.c1011011 toD .never) 0x8000#16 0xFFFF#16 = 0x8000#16 ∧
    withM (.c1011100 toD .never) 0x0005#16 0x0003#16 = 0xFFFA#16 ∧
    withM (.c1011100 toD .never) 0x8000#16 0xFFFF#16 = 0x7FFF#16 ∧
    withM (.c1011101 toD .never) 0x0005#16 0x0003#16 = 0x0005#16 ∧
    withM (.c1011101 toD .never) 0x8000#16 0xFFFF#16 = 0x8000#16 ∧
    withM (.c1011110 toD .never) 0x0005#16 0x0003#16 = 0xFFF9#16 ∧
    withM (.c1011110 toD .never) 0x8000#16 0xFFFF#16 = 0x7FFE#16 ∧
    withM (.c1011111 toD .never) 0x0005#16 0x0003#16 = 0x0006#16 ∧
    withM (.c1011111 toD .never) 0x8000#16 0xFFFF#16 = 0x8001#16 := by decide

theorem test_result_a1_100xxx :
    withM (.c1100000 toD .never) 0x0005#16 0x0003#16 = 0x0000#16 ∧
    withM (.c1100000 toD .never) 0x8000#16 0xFFFF#16 = 0x0000#16 ∧
    withM (.c1100001 toD .never) 0x0005#16 0x0003#16 = 0xFFFF#16 ∧
    withM (.c1100001 toD .never) 0x8000#16 0xFFFF#16 = 0xFFFF#16 ∧
    withM (.c1100010 toD .never) 0x0005#16 0x0003#16 = 0x0003#16 ∧
    withM (.c1100010 toD .never) 0x8000#16 0xFFFF#16 = 0xFFFF#16 ∧
    withM (.c1100011 toD .never) 0x0005#16 0x0003#16 = 0xFFFC#16 ∧
    withM (.c1100011 toD .never) 0x8000#16 0xFFFF#16 = 0x0000#16 ∧
    withM (.c1100100 toD .never) 0x0005#16 0x0003#16 = 0x0000#16 ∧
    withM (.c1100100 toD .never) 0x8000#16 0xFFFF#16 = 0x0000#16 ∧
    withM (.c1100101 toD .never) 0x0005#16 0x0003#16 = 0xFFFF#16 ∧
    withM (.c1100101 toD .never) 0x8000#16 0xFFFF#16 = 0xFFFF#16 ∧
    withM (.c1100110 toD .never) 0x0005#16 0x0003#16 = 0xFFFC#16 ∧
    withM (.c1100110 toD .never) 0x8000#16 0xFFFF#16 = 0x0000#16 ∧
    withM (.c1100111 toD .never) 0x0005#16 0x0003#16 = 0x0003#16 ∧
    withM (.c1100111 toD .never) 0x8000#16 0xFFFF#16 = 0xFFFF#16 := by decide

theorem test_result_a1_101xxx :
    withM (.c1101000 toD .never) 0x0005#16 0x0003#16 = 0x0000#16 ∧
    withM (.c1101000 toD .never) 0x8000#16 0xFFFF#16 = 0x0000#16 ∧
    withM (.c1101001 toD .never) 0x0005#16 0x0003#16 = 0xFFFF#16 ∧
    withM (.c1101001 toD .never) 0x8000#16 0xFFFF#16 = 0xFFFF#16 ∧
    withM (.c1101010 toD .never) 0x0005#16 0x0003#16 = 0x0000#16 ∧
    withM (.c1101010 toD .never) 0x8000#16 0xFFFF#16 = 0x0000#16 ∧
    withM (.c1101011 toD .never) 0x0005#16 0x0003#16 = 0xFFFF#16 ∧
    withM (.c1101011 toD .never) 0x8000#16 0xFFFF#16 = 0xFFFF#16 ∧
    withM (.c1101100 toD .never) 0x0005#16 0x0003#16 = 0x0000#16 ∧
    withM (.c1101100 toD .never) 0x8000#16 0xFFFF#16 = 0x0000#16 ∧
    withM (.c1101101 toD .never) 0x0005#16 0x0003#16 = 0xFFFF#16 ∧
    withM (.c1101101 toD .never) 0x8000#16 0xFFFF#16 = 0xFFFF#16 ∧
    withM (.c1101110 toD .never) 0x0005#16 0x0003#16 = 0xFFFF#16 ∧
    withM (.c1101110 toD .never) 0x8000#16 0xFFFF#16 = 0xFFFF#16 ∧
    withM (.c1101111 toD .never) 0x0005#16 0x0003#16 = 0x0000#16 ∧
    withM (.c1101111 toD .never) 0x8000#16 0xFFFF#16 = 0x0000#16 := by decide

theorem test_result_a1_110xxx :
    withM (.compM toD .never) 0x0005#16 0x0003#16 = 0x0003#16 ∧
    withM (.compM toD .never) 0x8000#16 0xFFFF#16 = 0xFFFF#16 ∧
    withM (.notM toD .never) 0x0005#16 0x0003#16 = 0xFFFC#16 ∧
    withM (.notM toD .never) 0x8000#16 0xFFFF#16 = 0x0000#16 ∧
    withM (.mMinus1 toD .never) 0x0005#16 0x0003#16 = 0x0002#16 ∧
    withM (.mMinus1 toD .never) 0x8000#16 0xFFFF#16 = 0xFFFE#16 ∧
    withM (.negM toD .never) 0x0005#16 0x0003#16 = 0xFFFD#16 ∧
    withM (.negM toD .never) 0x8000#16 0xFFFF#16 = 0x0001#16 ∧
    withM (.c1110100 toD .never) 0x0005#16 0x0003#16 = 0xFFFC#16 ∧
    withM (.c1110100 toD .never) 0x8000#16 0xFFFF#16 = 0x0000#16 ∧
    withM (.c1110101 toD .never) 0x0005#16 0x0003#16 = 0x0003#16 ∧
    withM (.c1110101 toD .never) 0x8000#16 0xFFFF#16 = 0xFFFF#16 ∧
    withM (.c1110110 toD .never) 0x0005#16 0x0003#16 = 0xFFFB#16 ∧
    withM (.c1110110 toD .never) 0x8000#16 0xFFFF#16 = 0xFFFF#16 ∧
    withM (.mPlus1 toD .never) 0x0005#16 0x0003#16 = 0x0004#16 ∧
    withM (.mPlus1 toD .never) 0x8000#16 0xFFFF#16 = 0x0000#16 := by decide

theorem test_result_a1_111xxx :
    withM (.c1111000 toD .never) 0x0005#16 0x0003#16 = 0x0000#16 ∧
    withM (.c1111000 toD .never) 0x8000#16 0xFFFF#16 = 0x0000#16 ∧
    withM (.c1111001 toD .never) 0x0005#16 0x0003#16 = 0xFFFF#16 ∧
    withM (.c1111001 toD .never) 0x8000#16 0xFFFF#16 = 0xFFFF#16 ∧
    withM (.c1111010 toD .never) 0x0005#16 0x0003#16 = 0xFFFF#16 ∧
    withM (.c1111010 toD .never) 0x8000#16 0xFFFF#16 = 0xFFFF#16 ∧
    withM (.c1111011 toD .never) 0x0005#16 0x0003#16 = 0x0000#16 ∧
    withM (.c1111011 toD .never) 0x8000#16 0xFFFF#16 = 0x0000#16 ∧
    withM (.c1111100 toD .never) 0x0005#16 0x0003#16 = 0xFFFF#16 ∧
    withM (.c1111100 toD .never) 0x8000#16 0xFFFF#16 = 0xFFFF#16 ∧
    withM (.c1111101 toD .never) 0x0005#16 0x0003#16 = 0x0000#16 ∧
    withM (.c1111101 toD .never) 0x8000#16 0xFFFF#16 = 0x0000#16 ∧
    withM (.c1111110 toD .never) 0x0005#16 0x0003#16 = 0xFFFE#16 ∧
    withM (.c1111110 toD .never) 0x8000#16 0xFFFF#16 = 0xFFFE#16 ∧
    withM (.c1111111 toD .never) 0x0005#16 0x0003#16 = 0x0001#16 ∧
    withM (.c1111111 toD .never) 0x8000#16 0xFFFF#16 = 0x0001#16 := by decide

/-! ### Single steps (V6) -/

/-- V6 row 1: `@5`. -/
theorem test_step_1 :
    let s := at_ 0x0000#16 0x0000#16 0x0000#16 0x0000#16 [(5, 0x0AAA#16)]
    row s 0x0005 = ((0x0005#16, 0x0000#16, 0x0001#16, 0x0AAA#16), false, 0x0000#16) ∧
      memRead (after s 0x0005) 5#15 = 0x0AAA#16 := by decide

/-- V6 row 2: `D=M`. -/
theorem test_step_2 :
    let s := at_ 0x0005#16 0x0000#16 0x0001#16 0x0AAA#16 [(5, 0x0AAA#16)]
    row s 0xFC10 = ((0x0005#16, 0x0AAA#16, 0x0002#16, 0x0AAA#16), false, 0x0AAA#16) ∧
      memRead (after s 0xFC10) 5#15 = 0x0AAA#16 := by decide

/-- V6 row 3: `D=D+1`. -/
theorem test_step_3 :
    let s := at_ 0x0005#16 0x0AAA#16 0x0002#16 0x0AAA#16 [(5, 0x0AAA#16)]
    row s 0xE7D0 = ((0x0005#16, 0x0AAB#16, 0x0003#16, 0x0AAA#16), false, 0x0AAB#16) ∧
      memRead (after s 0xE7D0) 5#15 = 0x0AAA#16 := by decide

/-- V6 row 4: `M=D`. -/
theorem test_step_4 :
    let s := at_ 0x0005#16 0x0AAB#16 0x0003#16 0x0AAA#16 [(5, 0x0AAA#16)]
    row s 0xE308 = ((0x0005#16, 0x0AAB#16, 0x0004#16, 0x0AAB#16), true, 0x0AAB#16) ∧
      memRead (after s 0xE308) 5#15 = 0x0AAB#16 := by decide

/-- V6 row 5: `A=A+1`. -/
theorem test_step_5 :
    let s := at_ 0x0005#16 0x0AAB#16 0x0004#16 0x0AAB#16 [(5, 0x0AAB#16), (6, 0x0077#16)]
    row s 0xEDE0 = ((0x0006#16, 0x0AAB#16, 0x0005#16, 0x0077#16), false, 0x0006#16) ∧
      memRead (after s 0xEDE0) 5#15 = 0x0AAB#16 ∧
      memRead (after s 0xEDE0) 6#15 = 0x0077#16 := by decide

/-- V6 row 6: `A=D (M follows new A)`. -/
theorem test_step_6 :
    let s := at_ 0x0006#16 0x0003#16 0x0005#16 0x0077#16 [(3, 0x0009#16), (6, 0x0077#16)]
    row s 0xE320 = ((0x0003#16, 0x0003#16, 0x0006#16, 0x0009#16), false, 0x0003#16) ∧
      memRead (after s 0xE320) 3#15 = 0x0009#16 ∧
      memRead (after s 0xE320) 6#15 = 0x0077#16 := by decide

/-- V6 row 7: `AM=D+1 (write at new A=10)`. -/
theorem test_step_7 :
    let s := at_ 0x0003#16 0x0009#16 0x0006#16 0x0009#16 [(3, 0x0009#16), (10, 0x0001#16)]
    row s 0xE7E8 = ((0x000A#16, 0x0009#16, 0x0007#16, 0x000A#16), true, 0x000A#16) ∧
      memRead (after s 0xE7E8) 3#15 = 0x0009#16 ∧
      memRead (after s 0xE7E8) 10#15 = 0x000A#16 := by decide

/-- V6 row 8: `D;JEQ taken`. -/
theorem test_step_8 :
    let s := at_ 0x0064#16 0x0000#16 0x0007#16 0x0000#16 []
    row s 0xE302 = ((0x0064#16, 0x0000#16, 0x0064#16, 0x0000#16), false, 0x0000#16) := by decide

/-- V6 row 9: `D;JEQ not taken`. -/
theorem test_step_9 :
    let s := at_ 0x0064#16 0x0001#16 0x0007#16 0x0000#16 []
    row s 0xE302 = ((0x0064#16, 0x0001#16, 0x0008#16, 0x0000#16), false, 0x0001#16) := by decide

/-- V6 row 10: `D;JLT taken`. -/
theorem test_step_10 :
    let s := at_ 0x0064#16 0x8000#16 0x0007#16 0x0000#16 []
    row s 0xE304 = ((0x0064#16, 0x8000#16, 0x0064#16, 0x0000#16), false, 0x8000#16) := by decide

/-- V6 row 11: `0;JMP under reset`. -/
theorem test_step_11 :
    let s := (at_ 0x0064#16 0x0000#16 0x0007#16 0x0000#16 []).withReset true
    row s 0xEA87 = ((0x0064#16, 0x0000#16, 0x0000#16, 0x0000#16), false, 0x0000#16) := by decide

/-- V6 row 12: `M=D to display`. -/
theorem test_step_12 :
    let s := at_ 0x4000#16 0xFFFF#16 0x0008#16 0x0000#16 []
    row s 0xE308 = ((0x4000#16, 0xFFFF#16, 0x0009#16, 0xFFFF#16), true, 0xFFFF#16) ∧
      memRead (after s 0xE308) 16384#15 = 0xFFFF#16 := by decide

/-- V6 row 13: `M=D to keyboard: ignored (KBD=0x20)`. -/
theorem test_step_13 :
    let s := { at_ 0x6000#16 0x0041#16 0x0009#16 0x0020#16 [] with keyboard := 0x0020#16 }
    row s 0xE308 = ((0x6000#16, 0x0041#16, 0x000A#16, 0x0020#16), true, 0x0041#16) := by decide

/-- V6 row 14: `0;JMP to A=0xFFFF`. -/
theorem test_step_14 :
    let s := at_ 0xFFFF#16 0x0000#16 0x7FFF#16 0x0000#16 []
    regs3 (after s 0xEA87) = (0xFFFF#16, 0x0000#16, 0xFFFF#16) ∧ (ports 0xEA87#16 s).writeM = false := by decide

/-- V6 row 15: `D=D+1 at PC=0xFFFF`. -/
theorem test_step_15 :
    let s := at_ 0x0000#16 0x0000#16 0xFFFF#16 0x0000#16 []
    row s 0xE7D0 = ((0x0000#16, 0x0001#16, 0x0000#16, 0x0000#16), false, 0x0001#16) := by decide

/-- V6 row 16: `@11213 (fields ignored)`. -/
theorem test_step_16 :
    let s := at_ 0x1234#16 0x0007#16 0x0003#16 0x0000#16 [(11213, 0x0055#16)]
    row s 0x2BCD = ((0x2BCD#16, 0x0007#16, 0x0004#16, 0x0055#16), false, 0x0000#16) ∧
      memRead (after s 0x2BCD) 11213#15 = 0x0055#16 := by decide

/-! ### Jumps (V7), with the boundary results 1, 32767 and -1 beside the vector's -/

/-- `PC` after `D;<jump>` with `A` = 0x0064 and `PC` = 0x0007. -/
def jumpTo (w : Nat) (d : Word) : Word := (after (at_ 0x0064#16 d 0x0007#16 0#16 []) w).PC

theorem test_jump_never :
    jumpTo 0xE300 0x0005#16 = 0x0008#16 ∧ jumpTo 0xE300 0x0000#16 = 0x0008#16 ∧ jumpTo 0xE300 0xFFFB#16 = 0x0008#16 ∧
    jumpTo 0xE300 0x8000#16 = 0x0008#16 ∧ jumpTo 0xE300 0x0001#16 = 0x0008#16 ∧
    jumpTo 0xE300 0x7FFF#16 = 0x0008#16 ∧ jumpTo 0xE300 0xFFFF#16 = 0x0008#16 := by decide

theorem test_jump_jgt :
    jumpTo 0xE301 0x0005#16 = 0x0064#16 ∧ jumpTo 0xE301 0x0000#16 = 0x0008#16 ∧ jumpTo 0xE301 0xFFFB#16 = 0x0008#16 ∧
    jumpTo 0xE301 0x8000#16 = 0x0008#16 ∧ jumpTo 0xE301 0x0001#16 = 0x0064#16 ∧
    jumpTo 0xE301 0x7FFF#16 = 0x0064#16 ∧ jumpTo 0xE301 0xFFFF#16 = 0x0008#16 := by decide

theorem test_jump_jeq :
    jumpTo 0xE302 0x0005#16 = 0x0008#16 ∧ jumpTo 0xE302 0x0000#16 = 0x0064#16 ∧ jumpTo 0xE302 0xFFFB#16 = 0x0008#16 ∧
    jumpTo 0xE302 0x8000#16 = 0x0008#16 ∧ jumpTo 0xE302 0x0001#16 = 0x0008#16 ∧
    jumpTo 0xE302 0x7FFF#16 = 0x0008#16 ∧ jumpTo 0xE302 0xFFFF#16 = 0x0008#16 := by decide

theorem test_jump_jge :
    jumpTo 0xE303 0x0005#16 = 0x0064#16 ∧ jumpTo 0xE303 0x0000#16 = 0x0064#16 ∧ jumpTo 0xE303 0xFFFB#16 = 0x0008#16 ∧
    jumpTo 0xE303 0x8000#16 = 0x0008#16 ∧ jumpTo 0xE303 0x0001#16 = 0x0064#16 ∧
    jumpTo 0xE303 0x7FFF#16 = 0x0064#16 ∧ jumpTo 0xE303 0xFFFF#16 = 0x0008#16 := by decide

theorem test_jump_jlt :
    jumpTo 0xE304 0x0005#16 = 0x0008#16 ∧ jumpTo 0xE304 0x0000#16 = 0x0008#16 ∧ jumpTo 0xE304 0xFFFB#16 = 0x0064#16 ∧
    jumpTo 0xE304 0x8000#16 = 0x0064#16 ∧ jumpTo 0xE304 0x0001#16 = 0x0008#16 ∧
    jumpTo 0xE304 0x7FFF#16 = 0x0008#16 ∧ jumpTo 0xE304 0xFFFF#16 = 0x0064#16 := by decide

theorem test_jump_jne :
    jumpTo 0xE305 0x0005#16 = 0x0064#16 ∧ jumpTo 0xE305 0x0000#16 = 0x0008#16 ∧ jumpTo 0xE305 0xFFFB#16 = 0x0064#16 ∧
    jumpTo 0xE305 0x8000#16 = 0x0064#16 ∧ jumpTo 0xE305 0x0001#16 = 0x0064#16 ∧
    jumpTo 0xE305 0x7FFF#16 = 0x0064#16 ∧ jumpTo 0xE305 0xFFFF#16 = 0x0064#16 := by decide

theorem test_jump_jle :
    jumpTo 0xE306 0x0005#16 = 0x0008#16 ∧ jumpTo 0xE306 0x0000#16 = 0x0064#16 ∧ jumpTo 0xE306 0xFFFB#16 = 0x0064#16 ∧
    jumpTo 0xE306 0x8000#16 = 0x0064#16 ∧ jumpTo 0xE306 0x0001#16 = 0x0008#16 ∧
    jumpTo 0xE306 0x7FFF#16 = 0x0008#16 ∧ jumpTo 0xE306 0xFFFF#16 = 0x0064#16 := by decide

theorem test_jump_jmp :
    jumpTo 0xE307 0x0005#16 = 0x0064#16 ∧ jumpTo 0xE307 0x0000#16 = 0x0064#16 ∧ jumpTo 0xE307 0xFFFB#16 = 0x0064#16 ∧
    jumpTo 0xE307 0x8000#16 = 0x0064#16 ∧ jumpTo 0xE307 0x0001#16 = 0x0064#16 ∧
    jumpTo 0xE307 0x7FFF#16 = 0x0064#16 ∧ jumpTo 0xE307 0xFFFF#16 = 0x0064#16 := by decide

/-! ### Destinations (V8) -/

/-- `A`, `D`, RAM[16], RAM[5] and `inM` after `<dest>=D+1`. -/
def destOf (w : Nat) : Word × Word × Word × Word × Word :=
  let t := after (at_ 0x0010#16 0x0004#16 0#16 0#16 [(5, 0x0BBB#16), (16, 0x0AAA#16)]) w
  (t.A, t.D, t.ram.read 16, t.ram.read 5, t.inM)

theorem test_dest_without_A :
    destOf 0xE7C0 = (0x0010#16, 0x0004#16, 0x0AAA#16, 0x0BBB#16, 0x0AAA#16) ∧
    destOf 0xE7C8 = (0x0010#16, 0x0004#16, 0x0005#16, 0x0BBB#16, 0x0005#16) ∧
    destOf 0xE7D0 = (0x0010#16, 0x0005#16, 0x0AAA#16, 0x0BBB#16, 0x0AAA#16) ∧
    destOf 0xE7D8 = (0x0010#16, 0x0005#16, 0x0005#16, 0x0BBB#16, 0x0005#16) := by decide

theorem test_dest_with_A :
    destOf 0xE7E0 = (0x0005#16, 0x0004#16, 0x0AAA#16, 0x0BBB#16, 0x0BBB#16) ∧
    destOf 0xE7E8 = (0x0005#16, 0x0004#16, 0x0AAA#16, 0x0005#16, 0x0005#16) ∧
    destOf 0xE7F0 = (0x0005#16, 0x0005#16, 0x0AAA#16, 0x0BBB#16, 0x0BBB#16) ∧
    destOf 0xE7F8 = (0x0005#16, 0x0005#16, 0x0AAA#16, 0x0005#16, 0x0005#16) := by decide

/-! ### The memory map (V9), the instruction store and reset (V10) -/

/-- The display and RAM after `M=-1` (0xEE88) at an address, and `inM`. -/
def minusOneAt (a : Word) : Memory × Memory × Word :=
  let t := after (at_ a 0#16 0#16 0#16 []) 0xEE88
  (t.ram, t.screen, t.inM)

theorem test_map_last_ram : minusOneAt 0x3FFF#16 = ([(16383, 0xFFFF#16)], [], 0xFFFF#16) := by decide

theorem test_map_first_display : minusOneAt 0x4000#16 = ([], [(0, 0xFFFF#16)], 0xFFFF#16) := by decide

theorem test_map_last_display : minusOneAt 0x5FFF#16 = ([], [(8191, 0xFFFF#16)], 0xFFFF#16) := by decide

theorem test_map_keyboard : minusOneAt 0x6000#16 = ([], [], 0x0000#16) := by decide

/-- Nothing is stored at 24577, and `inM` is the open value of that address and step. -/
theorem test_map_unassigned : minusOneAt 0x6001#16 = ([], [], Config.highRead 24577#15 0) := rfl

/-- `D=M` takes the carried `inM` whatever it is. -/
theorem test_map_top : (after (at_ 0x7FFF#16 0#16 0#16 0x1357#16 []) 0xFC10).D = 0x1357#16 := by decide

/-- Bit 15 of `A` addresses nothing: `M=D` at 0xFFFF is a write at 32767, at 0xC000 one at the first display word. -/
theorem test_map_hidden_bit :
    (after (at_ 0xFFFF#16 0x0055#16 0#16 0#16 []) 0xE308).addressM = 0x7FFF#15 ∧
    (after (at_ 0xFFFF#16 0x0055#16 0#16 0#16 []) 0xE308).ram = [] ∧
    (after (at_ 0xFFFF#16 0x0055#16 0#16 0#16 []) 0xE308).screen = [] ∧
    (after (at_ 0xC000#16 0x0055#16 0#16 0#16 []) 0xE308).screen = [(0, 0x0055#16)] := by decide

theorem test_loader_text :
    loadText "0000000000000101\n\n101\n1110101010000111\n".toList = .ok [(0, 0x0005#16), (1, 0xEA87#16)] := rfl

theorem test_loader_refuses : loadText "00000000000001011\n".toList = .error .longLine ∧
    loadText "000000000000010x\n".toList = .error .badCharacter ∧ loadBinary [0#8] = .error .oddBytes := ⟨rfl, rfl, rfl⟩

/-- The two byte orders of a binary source. -/
theorem test_loader_bytes : wordsOfBytes .big [0x12#8, 0x34#8] = .ok [0x1234#16] ∧
    wordsOfBytes .little [0x12#8, 0x34#8] = .ok [0x3412#16] := ⟨rfl, rfl⟩

theorem test_reset_during_load :
    regs3 (after ((at_ 0#16 0#16 0x0123#16 0#16 []).withReset true) 0x0007) = (0x0007#16, 0#16, 0#16) := by decide

theorem test_reset_during_store :
    regs3 (after ((at_ 0x0010#16 5#16 0x0123#16 0#16 []).withReset true) 0xE308) = (0x0010#16, 5#16, 0#16) ∧
    (after ((at_ 0x0010#16 5#16 0x0123#16 0#16 []).withReset true) 0xE308).ram = [(16, 5#16)] := by decide

/-- The host's next inputs take their places: the second `reset` value, the key put on after the step. -/
theorem test_inputs :
    let s := { State.reset with resetIn := [false, true], keyIn := [0x0041#16] }
    (after s 0xE7D0).resetIn = [true] ∧ (after s 0xE7D0).keyboard = 0x0041#16 ∧ (after s 0xE7D0).keyIn = [] ∧
      (after s 0xE7D0).t = 1 := by decide

/-- From reset with nothing loaded the first step runs `@0`. -/
theorem test_first_step_of_reset :
    step State.reset = .next { State.reset with PC := 1#16, pc := 1#15, cpuClock := 1, extClock := 1, t := 1 } := by rfl

/-! ### Gates, adders, ALU (S1 to S3, V1 to V3) -/

theorem test_gate_tables : Gate.nand true true = false ∧ Gate.nand true false = true ∧ Gate.xor true false = true ∧
    Gate.xor true true = false ∧ Gate.mux true false true = false ∧ Gate.mux false true true = true ∧
    Gate.demux true false = (true, false) ∧ Gate.demux true true = (false, true) := by decide

/-- R129: every row for signals and selectors; sampled words of vector S2 and eight words told apart. -/
theorem test_gates_meet_their_truth_tables : Gate.meetsTruthTables [0x0000#16, 0xFFFF#16, 0xAAAA#16, 0x0FF0#16]
    (fun k => BitVec.ofNat 16 (0x1111 * (k + 1))) = true := by decide +kernel

theorem test_gate_words : Gate.not16 0xAAAA#16 = 0x5555#16 ∧ Gate.and16 0xFF00#16 0x0FF0#16 = 0x0F00#16 ∧
    Gate.or16 0xFF00#16 0x0FF0#16 = 0xFFF0#16 ∧ Gate.mux16 0x1111#16 0x2222#16 true = 0x2222#16 := by decide

theorem test_gate_selectors : Gate.mux4way16 0xA#16 0xB#16 0xC#16 0xD#16 0b10#2 = 0xC#16 ∧
    Gate.mux8way16 (fun k => BitVec.ofNat 16 k) 0b110#3 = 6#16 ∧ Gate.demux4way true 0b01#2 1 = true ∧
    Gate.demux8way true 0b101#3 5 = true ∧ Gate.demux8way true 0b101#3 4 = false := by decide

theorem test_add16 : Gate.add16 0xFFFF#16 0x0001#16 = 0x0000#16 ∧ Gate.add16 0x7FFF#16 0x0001#16 = 0x8000#16 ∧
    Gate.add16 0x1234#16 0x0F0F#16 = 0x2143#16 ∧ Gate.add16 0x00FF#16 0x0001#16 = 0x0100#16 ∧
    Gate.inc16 0xFFFF#16 = 0x0000#16 ∧ Gate.fullAdder true true true = (true, true) := by decide +kernel

/-- V3: `x-y`, `y-x` and `-x` at corner operands, from gates. -/
theorem test_alu_gates : Gate.alu 0x8000#16 0xFFFF#16 false true false false true true = ⟨0x8001#16, false, true⟩ ∧
    Gate.alu 0x7FFF#16 0x0001#16 false false false true true true = ⟨0x8002#16, false, true⟩ ∧
    Gate.alu 0x8000#16 0xFFFF#16 false false true true true true = ⟨0x8000#16, false, true⟩ ∧
    Gate.alu 0x0005#16 0x0003#16 true false true false true false = ⟨0x0000#16, true, false⟩ := by decide +kernel

/-! ### Cells, registers, banks (S4 to S6, V4) -/

/-- S4: written, read, advanced, gone stale, and written again. -/
theorem test_cell_stale :
    let c := (Cell.launch false).write ⟨0⟩ true
    c = ⟨false, true, 1⟩ ∧ c.read ⟨0⟩ = false ∧ c.read ⟨1⟩ = true ∧ c.read ⟨2⟩ = false ∧
      c.write ⟨2⟩ true = ⟨false, true, 3⟩ ∧ (c.write ⟨2⟩ true).read ⟨2⟩ = false := by decide

/-- V4: the last write of a cycle wins. -/
theorem test_cell_last_write : (((Cell.launch false).write ⟨0⟩ true).write ⟨0⟩ false).read ⟨1⟩ = false := by decide

/-- V4: two applies in one cycle, the second loading. -/
theorem test_register_two_applies :
    let r := Register.launch 0x0007#16
    let p := r.apply ⟨0⟩ false 0x1234#16
    let q := p.2.apply ⟨0⟩ true 0x00FF#16
    p.1 = 0x0007#16 ∧ q.1 = 0x0007#16 ∧ q.2.read ⟨1⟩ = 0x00FF#16 := by decide

/-- V4 and S6: the program counter's priorities. -/
theorem test_pc_priority :
    let p := fun load inc reset => ((Register.launch 0x0010#16).pcApply ⟨0⟩ 0x0100#16 load inc reset).2.read ⟨1⟩
    p false false false = 0x0010#16 ∧ p false true false = 0x0011#16 ∧ p true false false = 0x0100#16 ∧
      p true true false = 0x0100#16 ∧ p false false true = 0x0000#16 ∧ p true true true = 0x0000#16 := by decide +kernel

/-- V4: a bank of 8 after a write of word 5. -/
theorem test_bank8 :
    let b := (Bank.apply 1 (Bank.launch 1 fun _ => 0#16) ⟨0⟩ 0xBEEF#16 true 5#3).2
    Bank.word 1 b ⟨0⟩ 5#3 = 0x0000#16 ∧ Bank.word 1 b ⟨1⟩ 5#3 = 0xBEEF#16 ∧ Bank.word 1 b ⟨1⟩ 4#3 = 0x0000#16 := by decide

/-- V4: the bank of 16384 after a write of word 4096, which is word 0 of child 1 of the 4-way top. -/
theorem test_ram16k :
    let b := ((Ram16K.launch fun _ => 0#16).apply ⟨0⟩ 0xCAFE#16 true 4096#14).2
    b.word ⟨1⟩ 4096#14 = 0xCAFE#16 ∧ b.word ⟨1⟩ 0#14 = 0x0000#16 ∧ b.word ⟨1⟩ 4095#14 = 0x0000#16 ∧
      ramHi 16383#14 = 3#2 ∧ ramLo 16383#14 = 4095#12 := by decide

/-! ### Witnesses: for each obligation with hypotheses, a concrete case that meets them all -/

theorem test_witness_FormatAndFields : (0x7FFF#16).getLsbD 15 = false ∧ (0x8000#16).getLsbD 15 = true := by decide

theorem test_witness_DecoderIgnoresBits14And13 : (0xFFFF#16).getLsbD 15 = true ∧
    ∀ k, k < 16 → k ≠ 13 → k ≠ 14 → (0x9FFF#16).getLsbD k = (0xFFFF#16).getLsbD k := by decide

/-- Both ends of the range of addresses. -/
theorem test_witness_AddressRoundTrip : (0 : Nat) < 32768 ∧ encodeWord (.loadAddr (BitVec.ofNat 15 0)) = 0x0000#16 ∧
    (32767 : Nat) < 32768 ∧ encodeWord (.loadAddr (BitVec.ofNat 15 32767)) = 0x7FFF#16 := by decide

/-- A state with `M=D` in the instruction store, which meets the invariant. -/
def storing : State := { at_ 0x0010#16 5#16 0#16 0#16 [] with rom := [(0, 0xE308#16)] }

theorem test_witness_StepRunsTheDecodedInstruction : storing.Inv ∧
    decode [storing.rom.read storing.pc.toNat] = .ok (.compD ⟨false, false, true⟩ .never, []) := ⟨by decide, rfl⟩

theorem test_witness_ComputeEffect : Instr.shape (.dMinusM ⟨false, true, false⟩ .jlt) =
    .comp .inM 0b010011#6 ⟨false, true, false⟩ .jlt := rfl

/-- Each jump field on a compute instruction, reset low; `test_jump_never` to `test_jump_jmp` give each condition a result
on either side of each boundary. -/
theorem test_witness_JumpConditions : resetNow storing = false ∧ ∀ jump, Instr.shape (.compD toNone jump) =
    .comp .regA 0b001100#6 toNone jump := ⟨rfl, fun _ => rfl⟩

/-- `AM=D+1` with the old and the new address both in RAM and different (V6 row 7). -/
theorem test_witness_StoreWithA :
    Instr.shape (.dPlus1 ⟨true, false, true⟩ .never) = .comp .regA 0b011111#6 ⟨true, false, true⟩ .never ∧
    (low15 (aluOf 0b011111#6 0x0009#16 (operandY .regA (at_ 0x0003#16 0x0009#16 0#16 0#16 []))).out) = 10#15 ∧
    low15 (at_ 0x0003#16 0x0009#16 0#16 0#16 []).A = 3#15 := by decide

/-- The same with both addresses the last word of the display and the last but one. -/
theorem test_witness_StoreWithA_boundary :
    (low15 (aluOf 0b011111#6 0x5FFE#16 (operandY .regA (at_ 0x5FFE#16 0x5FFE#16 0#16 0#16 []))).out).toNat < 24576 ∧
    (low15 (at_ 0x5FFE#16 0x5FFE#16 0#16 0#16 []).A).toNat < 24576 ∧
    low15 (at_ 0x5FFE#16 0x5FFE#16 0#16 0#16 []).A ≠
      low15 (aluOf 0b011111#6 0x5FFE#16 (operandY .regA (at_ 0x5FFE#16 0x5FFE#16 0#16 0#16 []))).out := by decide

/-- Each jump condition that can hold, at a result on the edge of its range: 32767, 0 and -32768. -/
theorem test_witness_TakenJumpGoesToTheOldA :
    (∀ jump, Instr.shape (.compD ⟨true, false, false⟩ jump) = .comp .regA 0b001100#6 ⟨true, false, false⟩ jump) ∧
    resetNow storing = false ∧
    (∀ jump ∈ [Jump.jgt, .jge, .jne, .jmp],
      jumpsOn jump (aluOf 0b001100#6 0x7FFF#16 (operandY .regA (at_ 0#16 0x7FFF#16 0#16 0#16 []))).out = true) ∧
    (∀ jump ∈ [Jump.jeq, .jge, .jle],
      jumpsOn jump (aluOf 0b001100#6 0#16 (operandY .regA (at_ 0#16 0#16 0#16 0#16 []))).out = true) ∧
    ∀ jump ∈ [Jump.jlt, .jne, .jle],
      jumpsOn jump (aluOf 0b001100#6 0x8000#16 (operandY .regA (at_ 0#16 0x8000#16 0#16 0#16 []))).out = true :=
  ⟨fun _ => rfl, rfl, by decide, by decide, by decide⟩

/-- Both ends of the range: the old `A` at 24576, and a new `A` of 0xFFFF, whose address is 32767. -/
theorem test_witness_StoreAboveTheDisplay :
    Instr.shape (.minus1 ⟨false, false, true⟩ .never) = .comp .regA 0b111010#6 ⟨false, false, true⟩ .never ∧
    24576 ≤ (low15 (at_ 0x6000#16 0#16 0#16 0#16 []).A).toNat ∧
    24576 ≤ (low15 (aluOf 0b111010#6 0#16 (operandY .regA (at_ 0#16 0#16 0#16 0#16 []))).out).toNat := by decide

/-- A load-address instruction and a compute instruction with `a` = 0. -/
theorem test_witness_CarriedWord : (∀ c dest jump, Instr.shape (.loadAddr 7#15) ≠ .comp .inM c dest jump) ∧
    ∀ c dest jump, Instr.shape (.compA toD .never) ≠ .comp .inM c dest jump := ⟨nofun, nofun⟩

/-- A new data address at the keyboard and one beside it. -/
theorem test_witness_Keyboard : (after (at_ 0#16 0#16 0#16 0#16 []) 0x6000).addressM.toNat = 24576 ∧
    (after (at_ 0#16 0#16 0#16 0#16 []) 0x5FFF).addressM.toNat = 24575 := by decide

/-- A step that writes a word, one that writes none. -/
theorem test_witness_Ports : step storing = .next (after storing 0xE308) ∧ (ports (fetchWord storing) storing).writeM = true ∧
    (ports (fetchWord State.reset) State.reset).writeM = false := ⟨rfl, by decide, by decide⟩

theorem test_witness_HeldReset : 0 < 2 ∧
    ({ State.reset with resetIn := [true, true] }).resetIn.take 2 = List.replicate 2 true := by decide

/-- A state that meets the invariant and steps to another; its step changes the word at address 16 and carries it. -/
theorem test_witness_steps : storing.Inv ∧ step storing = .next (after storing 0xE308) ∧
    (after storing 0xE308).addressM.toNat < 24576 ∧ (16#15 : Addr).toNat < 24576 ∧
    memRead (after storing 0xE308) 16#15 ≠ memRead storing 16#15 :=
  ⟨by decide, rfl, by decide, by decide, by decide⟩

theorem test_witness_runs : core.run 1 storing = .next (after storing 0xE308) := by rfl

/-- The first and last address of every region, and where each leads. -/
theorem test_witness_map : region 0#15 = .ram 0#14 ∧ region 16383#15 = .ram 16383#14 ∧ region 16384#15 = .screen 0#13 ∧
    region 24575#15 = .screen 8191#13 ∧ region 24576#15 = .keyboard ∧ region 24577#15 = .unassigned ∧
    region 32767#15 = .unassigned := by decide

/-- The last fetch address, with a load-address instruction and with a compute instruction without a jump. -/
theorem test_witness_FetchAddressWraps :
    (∀ src c dest jump, Instr.shape (.loadAddr 0#15) = .comp src c dest jump → jump = .never) ∧
    (∀ src c dest jump, Instr.shape (.dPlus1 toD .never) = .comp src c dest jump → jump = .never) ∧
    (at_ 0#16 0#16 0x7FFF#16 0#16 []).pc = low15 (at_ 0#16 0#16 0x7FFF#16 0#16 []).PC ∧
    resetNow (at_ 0#16 0#16 0x7FFF#16 0#16 []) = false ∧
    (after (at_ 0#16 0#16 0x7FFF#16 0#16 []) 0xE7D0).PC = 0x8000#16 ∧
    (after (at_ 0#16 0#16 0x7FFF#16 0#16 []) 0xE7D0).pc = 0#15 :=
  ⟨nofun, fun _ _ _ _ h => by cases h; rfl, by decide⟩

/-- A cell that was not written in the cycle, one written in it; both meet the invariant of rule R162. -/
theorem test_witness_cells : (2 : Nat) ≤ 2 ∧ (Cell.launch true).nextTime ≤ (Clock.mk 0).now ∧ (Cell.launch true).timely ⟨0⟩ ∧
    ((Cell.launch true).write ⟨0⟩ false).timely ⟨0⟩ ∧ ((Cell.launch true).write ⟨0⟩ false).nextTime = 1 :=
  ⟨Nat.le_refl 2, Nat.le_refl 0, Nat.zero_le 1, Nat.le_refl 1, rfl⟩

/-- The cell-level machine at launch with nothing loaded represents the reset state. -/
theorem test_witness_CellComputerRefinesTheStep : Represents (CellComputer.launch [] (fun _ => 0#16) []) State.reset where
  a := Register.read_launch 0#16
  d := Register.read_launch 0#16
  pc := Register.read_launch 0#16
  aLive := fun _ => .inr rfl
  dLive := fun _ => .inr rfl
  pcLive := fun _ => .inr rfl
  cpuClock := rfl
  extClock := rfl
  ram := fun _ => Bank.word_launch_const 4 0#16 _
  ramLive := fun _ => Bank.live_launch 4 _
  screen := rfl
  rom := rfl
  carriedPc := rfl
  carriedAddressM := rfl
  inM := rfl

/-- A blank line and a line of 15 characters around a word line, the last line without its line feed; the most words
that load, and one more. -/
theorem test_witness_TextualSource :
    (∀ line ∈ [.short [], .word 0x0005#16, .short "010101010101010".toList], SourceLine.wf line = true) ∧
    "\n0000000000000101\n010101010101010".toList ++ ['\n'] =
      textOfLines [.short [], .word 0x0005#16, .short "010101010101010".toList] ∧
    [SourceLine.short [], .word 0x0005#16, .short "010101010101010".toList].filterMap SourceLine.word? = [0x0005#16] ∧
    (List.replicate 32768 0#16).length ≤ 32768 ∧ 32768 < (List.replicate 32769 0#16).length ∧
    (∀ line ∈ List.replicate 32769 (SourceLine.word 0#16), line.wf = true) ∧
    ((List.replicate 32769 (SourceLine.word 0#16)).filterMap SourceLine.word?).length = 32769 := by
  refine ⟨by decide, by decide, by decide, ?_, ?_, ?_, ?_⟩
  · rw [List.length_replicate]
  · rw [List.length_replicate]; decide
  · intro line h; rw [List.eq_of_mem_replicate h]; rfl
  · rw [List.filterMap_replicate_of_some (show SourceLine.word? (.word 0#16) = some 0#16 from rfl), List.length_replicate]

/-- A bad line of 17 and one of 16 characters after a short line and a word line, as the last line and before another. -/
theorem test_witness_MalformedText :
    (∀ line ∈ [.short "101".toList, .word 0x0005#16], SourceLine.wf line = true) ∧
    (([] : List Char) = [] ∨ ∃ more, ([] : List Char) = '\n' :: more) ∧
    ("\n0".toList = [] ∨ ∃ more, "\n0".toList = '\n' :: more) ∧
    '\n' ∉ "00000000000000000".toList ∧ 16 < "00000000000000000".toList.length ∧
    '\n' ∉ "000000000000000x".toList ∧ "000000000000000x".toList.length = 16 ∧
    ∃ ch ∈ "000000000000000x".toList, ch ≠ '0' ∧ ch ≠ '1' :=
  ⟨by decide, .inl rfl, .inr ⟨['0'], rfl⟩, by decide, by decide, by decide, by decide, 'x', by decide⟩

/-- A bank and a register no cell of which is stale. -/
theorem test_witness_UndrivenBank : Bank.live 1 (Bank.launch 1 fun _ => 0xBEEF#16) { count := 0 } ∧ (2 : Nat) ≤ 2 ∧
    Bank.live 0 (Bank.launch 0 fun _ => 0xBEEF#16) { count := 0 } :=
  ⟨Bank.live_launch 1 _, Nat.le_refl 2, Bank.live_launch 0 _⟩

/-- A source that loads and one that does not. -/
theorem test_witness_LaunchIsAllOrNothing :
    loadRom (.text "0000000000000101\n".toList) = .ok [(0, 0x0005#16)] ∧
    loadRom (.binary [0#8]) = .error .oddBytes := ⟨rfl, rfl⟩

theorem test_witness_BinarySource : ([0x1234#16] : List Word).length ≤ 32768 ∧ ([0#8] : List (BitVec 8)).length % 2 = 1 := by
  decide

end Sys2Proof.Tests
end

section
/-! SUPPORT. Runs of steps: what a run that ends in a state is, and how a property kept by every step is kept by a run. -/

namespace Sys2Proof.Machine

/-- Every step is the step's tail with some register values and some write request. -/
theorem step_eq_finishStep (s : State) : ∃ a d p writeM outM, step s = .next (finishStep s a d p writeM outM) :=
  exec_eq_finishStep (decodeWord (fetchWord s)) s

/-- The state a step ends in is the step's tail with some register values and some write request. -/
theorem eq_finishStep_of_step {s t : State} (h : step s = .next t) :
    ∃ a d p writeM outM, t = finishStep s a d p writeM outM := by
  obtain ⟨a, d, p, writeM, outM, e⟩ := step_eq_finishStep s
  exact ⟨a, d, p, writeM, outM, Host.Outcome.next.inj (h.symm.trans e)⟩

@[simp] theorem run_zero_eq_next_iff {s t : State} : core.run 0 s = .next t ↔ t = s :=
  ⟨fun h => (Host.Outcome.next.inj h).symm, fun h => h ▸ rfl⟩

/-- A run whose first step ends in `u` goes on from `u`. -/
theorem run_succ_of_step {M : Host.Core} {s u : M.State} (h : M.step s = .next u) (k : Nat) :
    M.run (k + 1) s = M.run k u := by
  rw [Host.Core.run, h]

/-- A run of `k + 1` steps that ends in `t` is a step and a run of `k` steps that ends in `t`. -/
theorem run_succ_eq_next_iff {k : Nat} {s t : State} :
    core.run (k + 1) s = .next t ↔ ∃ u, step s = .next u ∧ core.run k u = .next t := by
  obtain ⟨a, d, p, writeM, outM, hstep⟩ := step_eq_finishStep s
  rw [show core.run (k + 1) s = core.run k _ from run_succ_of_step (M := core) hstep k]
  constructor
  · exact fun h => ⟨_, hstep, h⟩
  · rintro ⟨u, hu, h⟩
    obtain rfl := Host.Outcome.next.inj (hstep.symm.trans hu)
    exact h

/-- A property that every step keeps holds at the end of every run that starts with it. -/
theorem run_keeps {P : State → Prop} (keep : ∀ s t : State, P s → step s = .next t → P t) {k : Nat} {s t : State}
    (hs : P s) (h : core.run k s = .next t) : P t := by
  induction k generalizing s with
  | zero => exact run_zero_eq_next_iff.mp h ▸ hs
  | succ k ih =>
    obtain ⟨u, hu, hrun⟩ := run_succ_eq_next_iff.mp h
    exact ih (keep s u hs hu) hrun

/-- A step leaves the instruction store (R75). -/
theorem step_rom {s t : State} (h : step s = .next t) : t.rom = s.rom := by
  obtain ⟨a, d, p, writeM, outM, rfl⟩ := eq_finishStep_of_step h
  exact finishStep_rom s a d p writeM outM

/-- A run leaves the instruction store (R75). -/
theorem run_rom {k : Nat} {s t : State} (h : core.run k s = .next t) : t.rom = s.rom :=
  run_keeps (P := fun u => u.rom = s.rom) (fun _ _ hu hstep => (step_rom hstep).trans hu) rfl h

/-- Reading the instruction store depends on that store alone. -/
theorem romRead_congr {s t : State} (h : t.rom = s.rom) (addr : Addr) : romRead t addr = romRead s addr := by
  rw [romRead, romRead, h]

end Sys2Proof.Machine
end

section
/-! SUPPORT. Data reads and writes region by region, the address as a number (table R52, R61, R62). -/

namespace Sys2Proof.Machine

/-! ### The region of an address -/

theorem region_of_le_16383 {addr : Addr} (h : addr.toNat ≤ 16383) :
    ∃ a, region addr = .ram a ∧ a.toNat = addr.toNat := by
  rcases region_spec addr with ⟨a, e, -, ha⟩ | ⟨_, -, lo, -, -⟩ | ⟨-, eq⟩ | ⟨-, lo⟩
  · exact ⟨a, e, ha⟩
  all_goals omega

theorem region_of_le_24575 {addr : Addr} (h : 16384 ≤ addr.toNat) (h' : addr.toNat ≤ 24575) :
    ∃ a, region addr = .screen a ∧ a.toNat = addr.toNat - 16384 := by
  rcases region_spec addr with ⟨_, -, hi, -⟩ | ⟨a, e, -, -, ha⟩ | ⟨-, eq⟩ | ⟨-, lo⟩
  · omega
  · exact ⟨a, e, ha⟩
  all_goals omega

theorem region_of_eq_24576 {addr : Addr} (h : addr.toNat = 24576) : region addr = .keyboard := by
  rcases region_spec addr with ⟨_, -, hi, -⟩ | ⟨_, -, -, hi, -⟩ | ⟨e, -⟩ | ⟨-, lo⟩
  · omega
  · omega
  · exact e
  · omega

theorem region_of_ge_24577 {addr : Addr} (h : 24577 ≤ addr.toNat) : region addr = .unassigned := by
  rcases region_spec addr with ⟨_, -, hi, -⟩ | ⟨_, -, -, hi, -⟩ | ⟨-, eq⟩ | ⟨e, -⟩
  · omega
  · omega
  · omega
  · exact e

/-! ### Reading (R61) -/

theorem memRead_of_le_16383 (s : State) {addr : Addr} (h : addr.toNat ≤ 16383) :
    memRead s addr = s.ram.read addr.toNat := by
  obtain ⟨a, e, ha⟩ := region_of_le_16383 h
  simp only [memRead, e, ha]

theorem memRead_of_le_24575 (s : State) {addr : Addr} (h : 16384 ≤ addr.toNat) (h' : addr.toNat ≤ 24575) :
    memRead s addr = s.screen.read (addr.toNat - 16384) := by
  obtain ⟨a, e, ha⟩ := region_of_le_24575 h h'
  simp only [memRead, e, ha]

theorem memRead_of_eq_24576 (s : State) {addr : Addr} (h : addr.toNat = 24576) : memRead s addr = s.keyboard := by
  simp only [memRead, region_of_eq_24576 h]

theorem memRead_of_ge_24577 (s : State) {addr : Addr} (h : 24577 ≤ addr.toNat) :
    memRead s addr = Config.highRead addr s.t := by
  simp only [memRead, region_of_ge_24577 h]

/-! ### Writing (R62) -/

theorem memWrite_of_le_16383 (s : State) {addr : Addr} (v : Word) (h : addr.toNat ≤ 16383) :
    memWrite s addr v = { s with ram := s.ram.write addr.toNat v } := by
  obtain ⟨a, e, ha⟩ := region_of_le_16383 h
  simp only [memWrite, e, ha]

theorem memWrite_of_le_24575 (s : State) {addr : Addr} (v : Word) (h : 16384 ≤ addr.toNat) (h' : addr.toNat ≤ 24575) :
    memWrite s addr v = { s with screen := s.screen.write (addr.toNat - 16384) v } := by
  obtain ⟨a, e, ha⟩ := region_of_le_24575 h h'
  simp only [memWrite, e, ha]

/-- A write at the keyboard or above changes nothing (R53, R59; log entry 27). -/
theorem memWrite_of_ge_24576 (s : State) {addr : Addr} (v : Word) (h : 24576 ≤ addr.toNat) : memWrite s addr v = s := by
  rcases Nat.eq_or_lt_of_le h with heq | hlt
  · simp only [memWrite, region_of_eq_24576 heq.symm]
  · simp only [memWrite, region_of_ge_24577 hlt]

end Sys2Proof.Machine
end

section
/-! CERTIFICATE. The statements about the memory (20_memory.md): O37, O39, O40. -/

namespace Sys2Proof.Machine

/-- Settles O37: no step changes the instruction store, so no run does, and reading it depends on that store alone. -/
theorem instructionStoreNeverChanges : Obligations.InstructionStoreNeverChanges :=
  fun _ _ _ h => ⟨run_rom h, romRead_congr (run_rom h)⟩

/-- Settles O39, one region of the address map after the other. -/
theorem memReadFollowsTheMap : Obligations.MemReadFollowsTheMap :=
  fun s _ => ⟨memRead_of_le_16383 s, memRead_of_le_24575 s, memRead_of_eq_24576 s, memRead_of_ge_24577 s⟩

/-- Settles O40, one region of the address map after the other; the store after the write reads
as `Memory.read_write` says. -/
theorem memWriteFollowsTheMap : Obligations.MemWriteFollowsTheMap :=
  fun s _ v =>
    ⟨fun h => ⟨_, memWrite_of_le_16383 s v h, Memory.read_write _ _ _⟩,
      fun h h' => ⟨_, memWrite_of_le_24575 s v h h', Memory.read_write _ _ _⟩,
      memWrite_of_ge_24576 s v⟩

end Sys2Proof.Machine
end

section
/-! SUPPORT. The fields of a word's instruction (30_encoding.md tables R82, R83), and the word of a load-address
instruction as its literal (R91). -/

namespace Sys2Proof

/-- Bit `k` of a field is the bit of the word that lies `k` above the field's lowest. -/
theorem getLsbD_field (w : Word) {start len k : Nat} (h : k < len) :
    (w.extractLsb' start len).getLsbD k = w.getLsbD (start + k) := by
  rw [BitVec.getLsbD_extractLsb', decide_eq_true h, Bool.true_and]

theorem SrcY.ofCode_eq_inM_iff (a : Signal) : SrcY.ofCode a = .inM ↔ a = true := by cases a <;> decide

/-- The shape of a word with bit 15 low: its low 15 bits. -/
theorem shape_decodeWord_load {w : Word} (h : w.getLsbD 15 = false) :
    (decodeWord w).shape = .load (w.extractLsb' 0 15) := by
  rw [decodeWord_load h, Instr.shape]

/-- The shape of a word with bit 15 high: its four fields. -/
theorem shape_decodeWord_comp {w : Word} (h : w.getLsbD 15 = true) :
    (decodeWord w).shape = .comp (.ofCode (w.getLsbD 12)) (w.extractLsb' 6 6) (.ofCode (w.extractLsb' 3 3))
      (.ofCode (w.extractLsb' 0 3)) := by
  rw [decodeWord_comp h, Instr.shape_ofFields]

/-- The word of a load-address instruction is its literal, zero-extended. -/
theorem encodeWord_loadAddr (value : BitVec 15) : encodeWord (.loadAddr value) = value.zeroExtend 16 := by
  apply BitVec.eq_of_getLsbD_eq
  intro k hk
  rw [encode_load_bit, BitVec.getLsbD_setWidth, decide_eq_true hk, Bool.true_and]
  split
  · rfl
  · next h => exact (BitVec.getLsbD_of_ge value k (Nat.le_of_not_lt h)).symm

/-- The low 15 bits of that word are the literal again. -/
theorem extractLsb'_encodeWord_loadAddr (value : BitVec 15) :
    (encodeWord (.loadAddr value)).extractLsb' 0 15 = value := by
  apply BitVec.eq_of_getLsbD_eq
  intro k hk
  rw [getLsbD_field _ hk, Nat.zero_add, encode_load_bit, if_pos hk]

/-- An address below 32768 survives the literal field and its zero-extension. -/
theorem toNat_zeroExtend_ofNat {n : Nat} (h : n < 32768) : (BitVec.zeroExtend 16 (BitVec.ofNat 15 n)).toNat = n := by
  rw [BitVec.toNat_setWidth, BitVec.toNat_ofNat]
  omega

end Sys2Proof
end

section
/-! CERTIFICATE. The statements about the encoding (30_encoding.md): O1, O4, O7. -/

namespace Sys2Proof.Machine

/-- Settles O1: each of the twelve words of V5, decoded by evaluation. -/
theorem specWordsDecode : Obligations.SpecWordsDecode := by
  unfold Obligations.SpecWordsDecode
  decide

/-- Settles O4: the shape of the decoded word by its format, then the compute fields bit by bit. -/
theorem formatAndFieldsAreTheWordsBits : Obligations.FormatAndFieldsAreTheWordsBits := by
  intro w
  refine ⟨shape_decodeWord_load, fun h => ⟨_, _, _, _, shape_decodeWord_comp h, SrcY.ofCode_eq_inM_iff _,
    fun k hk => getLsbD_field w hk, ?dA, ?dD, ?dM, fun k hk => ?jump⟩⟩
  case dA => exact getLsbD_field w (start := 3) (k := 2) (by decide)
  case dD => exact getLsbD_field w (start := 3) (k := 1) (by decide)
  case dM => exact getLsbD_field w (start := 3) (k := 0) (by decide)
  case jump => rw [Jump.code_ofCode, getLsbD_field w hk, Nat.zero_add]

/-- Settles O7: the word of the instruction, its low 15 bits and the new `A` are all the literal `n` (R89, R215). -/
theorem addressRoundTrip : Obligations.AddressRoundTrip := by
  intro n s hn
  have hword := toNat_zeroExtend_ofNat hn
  refine ⟨?word, ?low, _, exec_loadAddr _ s, ?newA⟩
  case word => rw [encodeWord_loadAddr, hword]
  case low => rw [extractLsb'_encodeWord_loadAddr, hword]
  case newA => rw [finishStep_A, literal, hword]

end Sys2Proof.Machine
end

section
/-! SUPPORT. The gates as operations on signals and words (40_signal_algebra.md): `nand` by its table, each other gate by
its derivation from gates above it, the 16-wide forms position by position. -/

namespace Sys2Proof.Machine

/-! ### Single signals (R111 to R116) -/

@[simp] theorem Gate.nand_eq (a b : Signal) : Gate.nand a b = !(a && b) := by
  cases a <;> cases b <;> rfl

@[simp] theorem Gate.not_eq (a : Signal) : Gate.not a = !a := by
  rw [Gate.not, Gate.nand_eq, Bool.and_self]

@[simp] theorem Gate.and_eq (a b : Signal) : Gate.and a b = (a && b) := by
  rw [Gate.and, Gate.not_eq, Gate.nand_eq, Bool.not_not]

@[simp] theorem Gate.or_eq (a b : Signal) : Gate.or a b = (a || b) := by
  rw [Gate.or, Gate.nand_eq, Gate.not_eq, Gate.not_eq, Bool.not_and, Bool.not_not, Bool.not_not]

@[simp] theorem Gate.xor_eq (a b : Signal) : Gate.xor a b = (a != b) := by
  rw [Gate.xor, Gate.or_eq, Gate.and_eq, Gate.and_eq, Gate.not_eq, Gate.not_eq]
  cases a <;> cases b <;> rfl

@[simp] theorem Gate.mux_eq (a b sel : Signal) : Gate.mux a b sel = if sel then b else a := by
  rw [Gate.mux, Gate.nand_eq, Gate.nand_eq, Gate.nand_eq, Gate.not_eq]
  cases sel <;> simp

/-! ### Words (R118 to R121) -/

/-- A row of bits that agrees with a word at all 16 positions makes up that word. -/
theorem wordOfBits_eq {f : Nat → Signal} {w : Word} (h : ∀ k < 16, f k = w.getLsbD k) : wordOfBits f = w := by
  apply BitVec.eq_of_getLsbD_eq
  intro k hk
  rw [getLsbD_wordOfBits, decide_eq_true hk, Bool.true_and, h k hk]

@[simp] theorem Gate.not16_eq (w : Word) : Gate.not16 w = ~~~w :=
  wordOfBits_eq fun k hk => by rw [Gate.not_eq, BitVec.getLsbD_not, decide_eq_true hk, Bool.true_and]

@[simp] theorem Gate.and16_eq (v w : Word) : Gate.and16 v w = v &&& w :=
  wordOfBits_eq fun k _ => by rw [Gate.and_eq, BitVec.getLsbD_and]

@[simp] theorem Gate.or16_eq (v w : Word) : Gate.or16 v w = v ||| w :=
  wordOfBits_eq fun k _ => by rw [Gate.or_eq, BitVec.getLsbD_or]

@[simp] theorem Gate.mux16_eq (v w : Word) (sel : Signal) : Gate.mux16 v w sel = if sel then w else v :=
  wordOfBits_eq fun k _ => by rw [Gate.mux_eq]; cases sel <;> rfl

end Sys2Proof.Machine
end

section
/-! CERTIFICATE. The statements about the signal algebra (40_signal_algebra.md): O42, O43. -/

namespace Sys2Proof.Machine

/-- Settles O42, gate by gate. -/
theorem singleSignalGatesMatchTheirTables : Obligations.SingleSignalGatesMatchTheirTables :=
  fun a b => ⟨Gate.nand_eq a b, Gate.not_eq a, Gate.and_eq a b, Gate.or_eq a b, Gate.xor_eq a b⟩

/-- Settles O43: each word gate agrees with the word operation at every position (`wordOfBits_eq`). -/
theorem wordGatesActBitByBit : Obligations.WordGatesActBitByBit :=
  fun v w sel => ⟨Gate.not16_eq w, Gate.and16_eq v w, Gate.or16_eq v w, Gate.mux16_eq v w sel⟩

end Sys2Proof.Machine
end

section
/-! SUPPORT. The adders and the ALU built from gates as word operations (41_arithmetic_alu.md R140 to R149): the ripple is
the carry chain of addition, the zero flag looks at every bit, and so the ALU of gates is the word-level ALU. -/

namespace Sys2Proof.Machine

/-! ### Addition (R140 to R142) -/

/-- Position `i` of the ripple: the sum's bit there, and the carry of the addition into the position above. -/
theorem Gate.ripple_eq (v w : Word) {i : Nat} (h : i < 16) :
    Gate.ripple v w i = ((v + w).getLsbD i, BitVec.carry (i + 1) v w false) := by
  rw [BitVec.getLsbD_add h, BitVec.carry_succ]
  induction i with
  | zero => simp [Gate.ripple, Gate.halfAdder, BitVec.carry_zero, Bool.atLeastTwo]
  | succ i ih =>
    have carryIn : (Gate.ripple v w i).2 = BitVec.carry (i + 1) v w false := by
      rw [ih (by omega), BitVec.carry_succ]
    simp [Gate.ripple, Gate.fullAdder, carryIn, Bool.atLeastTwo]

@[simp] theorem Gate.add16_eq (v w : Word) : Gate.add16 v w = v + w :=
  wordOfBits_eq fun _ hk => by rw [Gate.ripple_eq v w hk]

/-! ### The flags (R122, R148, R149) -/

theorem Gate.or8way_eq_true_iff (f : Nat → Signal) (lo : Nat) :
    Gate.or8way f lo = true ↔ ∃ k < 8, f (lo + k) = true := by
  simp only [Gate.or8way, Gate.or_eq, Bool.or_eq_true, Nat.exists_lt_succ_left, Nat.not_lt_zero, false_and, exists_false,
    or_false, Nat.add_zero, Nat.zero_add, Nat.reduceAdd]

/-- `zr` from gates is high iff none of the 16 positions is. -/
theorem Gate.zeroFlag_eq_true_iff (out : Word) : Gate.zeroFlag out = true ↔ ∀ k < 16, out.getLsbD k = false := by
  rw [Gate.zeroFlag, Gate.not_eq, Gate.or_eq, Bool.not_eq_true', Bool.or_eq_false_iff]
  simp only [← Bool.not_eq_true, Gate.or8way_eq_true_iff, not_exists, not_and, Nat.zero_add]
  constructor
  · rintro ⟨low, high⟩ k hk
    by_cases h : k < 8
    · exact low k h
    · have := high (k - 8) (by omega)
      rwa [Nat.add_sub_cancel' (by omega)] at this
  · exact fun all => ⟨fun k hk => all k (by omega), fun k hk => all (8 + k) (by omega)⟩

@[simp] theorem Gate.zeroFlag_eq (out : Word) : Gate.zeroFlag out = Machine.zeroFlag out := by
  rw [Bool.eq_iff_iff, Gate.zeroFlag_eq_true_iff, Machine.zeroFlag, beq_iff_eq]
  constructor
  · exact fun low => BitVec.eq_of_getLsbD_eq fun k hk => by rw [low k hk, BitVec.getLsbD_zero]
  · rintro rfl k -
    exact BitVec.getLsbD_zero

/-- With both flags low the result is positive, and only then (R148, R149). -/
theorem flags_low_iff (out : Word) : zeroFlag out = false ∧ negFlag out = false ↔ 0 < out.toInt := by
  rw [zeroFlag_eq, negFlag_eq, decide_eq_false_iff_not, decide_eq_false_iff_not]
  omega

/-! ### The ALU (R145 to R147) -/

/-- The ALU built from gates is the word-level ALU, stage by stage. -/
theorem Gate.alu_eq (x y : Word) (zx nx zy ny f no : Signal) :
    Gate.alu x y zx nx zy ny f no = Machine.alu x y zx nx zy ny f no := by
  simp only [Gate.alu, Gate.mux16_eq, Gate.not16_eq, Gate.and16_eq, Gate.add16_eq, Gate.zeroFlag_eq]
  rfl

end Sys2Proof.Machine
end

section
/-! CERTIFICATE. The statements about the ALU (41_arithmetic_alu.md): O46. -/

namespace Sys2Proof.Machine

/-- Settles O46: the ALU of gates is the word-level ALU (`Gate.alu_eq`), whose definition is the stages in their order;
the signs of the result are its flags. -/
theorem gateAluIsTheStagedFunction : Obligations.GateAluIsTheStagedFunction := by
  intro x y zx nx zy ny f no x1 x2 y1 y2 r out
  have stages : alu x y zx nx zy ny f no = { out := out, zr := zeroFlag out, ng := negFlag out } := rfl
  rw [Gate.alu_eq, stages]
  refine ⟨rfl, rfl, ?negative, flags_low_iff out⟩
  case negative => rw [negFlag_eq, decide_eq_true_iff]

end Sys2Proof.Machine
end

section
/-! SUPPORT. The 8-way selectors of the banks by the index they pick (40_signal_algebra.md R124, R126), and the
incrementer as addition of one (R144). -/

namespace Sys2Proof.Machine

@[simp] theorem Gate.mux8way16_eq (w : Fin 8 → Word) (sel : BitVec 3) : Gate.mux8way16 w sel = w sel.toFin := by
  obtain ⟨k⟩ := sel
  simp only [Gate.mux8way16, Gate.mux4way16, Gate.mux16_eq]
  fin_cases k <;> rfl

@[simp] theorem Gate.demux8way_eq (inp : Signal) (sel : BitVec 3) (k : Fin 8) :
    Gate.demux8way inp sel k = (inp && decide (k = sel.toFin)) := by
  revert inp sel k
  decide

@[simp] theorem Gate.inc16_eq (w : Word) : Gate.inc16 w = w + 1#16 := by
  rw [Gate.inc16, Gate.add16_eq, Gate.oneWord]

end Sys2Proof.Machine
end

section
/-! SUPPORT. Reads of a cell and of a register after a drive, in the cycle of the drive and after its edge
(42_clock_and_storage.md R163, R164, R170, R172, R184, R185). -/

namespace Sys2Proof.Machine

/-! ### A cell -/

/-- In the cycle of a write the visible value is the one from before it. -/
@[simp] theorem Cell.read_write (c : Cell) (clk : Clock) (v : Signal) : (c.write clk v).read clk = c.read clk := by
  rw [Cell.read, if_pos (Cell.write_nextTime c clk v), Cell.write, Cell.read]
  by_cases due : c.nextTime = clk.now
  · rw [if_pos due, if_neg (by omega), if_pos due]
  · rw [if_neg due, if_neg due]
    split <;> rfl

/-- At a Clock that shows the due cycle of the pending value, that value is visible. -/
theorem Cell.read_of_due {c : Cell} {clk : Clock} (h : c.nextTime = clk.now) : c.read clk = c.next := by
  rw [Cell.read, if_neg (by omega), if_pos h]

/-- After the due cycle of its pending value a cell reads low (R168). -/
theorem Cell.read_of_stale {c : Cell} {clk : Clock} (h : c.nextTime < clk.now) : c.read clk = false := by
  rw [Cell.read, if_neg (by omega), if_neg (by omega)]

/-- After the edge the value written is visible. -/
@[simp] theorem Cell.read_write_advance (c : Cell) (clk : Clock) (v : Signal) :
    (c.write clk v).read clk.advance = v :=
  (Cell.read_of_due (Cell.write_nextTime c clk v)).trans (Cell.write_next c clk v)

/-- A written cell is not stale, in the cycle of the write and in the next. -/
theorem Cell.live_write (c : Cell) {clk clk' : Clock} (v : Signal) (h : clk' = clk ∨ clk' = clk.advance) :
    (c.write clk v).live clk' := by
  rcases h with rfl | rfl
  · exact .inl (Cell.write_nextTime c _ v)
  · exact .inr (Cell.write_nextTime c clk v)

/-! ### A register -/

/-- Sixteen wires that agree with a word at every position make up that word. -/
theorem wordOfWires_eq {f : Fin 16 → Signal} {w : Word} (h : ∀ k : Fin 16, f k = w.getLsbD k) : wordOfWires f = w :=
  (congrArg wordOfWires (funext h)).trans (wordOfWires_bits w)

@[simp] theorem Register.apply_out (r : Register) (clk : Clock) (load : Signal) (w : Word) :
    (r.apply clk load w).1 = r.read clk := rfl

@[simp] theorem Register.read_apply (r : Register) (clk : Clock) (load : Signal) (w : Word) :
    (r.apply clk load w).2.read clk = r.read clk :=
  wordOfWires_eq fun k => by rw [Register.apply_cell, Cell.read_write, Register.getLsbD_read r clk k.isLt]

/-- After the edge a register shows the loaded word, or its old one. -/
@[simp] theorem Register.read_apply_advance (r : Register) (clk : Clock) (load : Signal) (w : Word) :
    (r.apply clk load w).2.read clk.advance = if load then w else r.read clk :=
  wordOfWires_eq fun k => by
    rw [Register.apply_cell, Cell.read_write_advance, Gate.mux_eq]
    cases load
    · exact (Register.getLsbD_read r clk k.isLt).symm
    · rfl

theorem Register.live_apply (r : Register) {clk clk' : Clock} (load : Signal) (w : Word)
    (h : clk' = clk ∨ clk' = clk.advance) : (r.apply clk load w).2.live clk' :=
  fun _ => Cell.live_write _ _ h

end Sys2Proof.Machine
end

section
/-! SUPPORT. A bank as an array of words (42_clock_and_storage.md R175 to R179): what `apply` shows and what the words of
the bank are afterwards, by induction on the depth. -/

namespace Sys2Proof.Machine

/-! ### Addresses -/

/-- An address is the child it selects and its address inside that child. -/
theorem bankAddr_eq_iff {n : Nat} {k addr : BitVec (3 * (n + 1))} :
    k = addr ↔ ((bankHi n k).toFin : Fin 8) = (bankHi n addr).toFin ∧ bankLo n k = bankLo n addr := by
  refine ⟨by rintro rfl; exact ⟨rfl, rfl⟩, fun ⟨child, lo⟩ => BitVec.eq_of_getLsbD_eq fun i _ => ?_⟩
  have hi : bankHi n k = bankHi n addr := BitVec.toFin_inj.mp child
  by_cases low : i < 3 * n
  · have bit := congrArg (BitVec.getLsbD · i) lo
    simpa [bankLo, low] using bit
  · have bit := congrArg (BitVec.getLsbD · (i - 3 * n)) hi
    have inField : i - 3 * n < 3 := by omega
    simpa [bankHi, inField, Nat.add_sub_cancel' (Nat.le_of_not_lt low)] using bit

/-! ### One level of composition (R176 to R178) -/

/-- The output of a composed bank is the output of the addressed child, driven with the bank's own `load`. -/
theorem Bank.apply_succ_out (n : Nat) (b : Bank (n + 1)) (clk : Clock) (inWord : Word) (load : Signal)
    (addr : BitVec (3 * (n + 1))) :
    (Bank.apply (n + 1) b clk inWord load addr).1 =
      (Bank.apply n (b (bankHi n addr).toFin) clk inWord load (bankLo n addr)).1 := by
  simp only [Bank.apply, Gate.mux8way16_eq, Gate.demux8way_eq, Gate.and_eq, decide_true, Bool.and_true]

/-- Every child is driven, with `load` high only if it is the addressed one. -/
theorem Bank.apply_succ_child (n : Nat) (b : Bank (n + 1)) (clk : Clock) (inWord : Word) (load : Signal)
    (addr : BitVec (3 * (n + 1))) (k : Fin 8) :
    (Bank.apply (n + 1) b clk inWord load addr).2 k =
      (Bank.apply n (b k) clk inWord (load && decide (k = (bankHi n addr).toFin)) (bankLo n addr)).2 := by
  simp only [Bank.apply, Gate.demux8way_eq, Gate.and_eq, Bool.true_and]

/-! ### Every depth -/

theorem Bank.apply_out (n : Nat) (b : Bank n) (clk : Clock) (inWord : Word) (load : Signal) (addr : BitVec (3 * n)) :
    (Bank.apply n b clk inWord load addr).1 = Bank.word n b clk addr := by
  induction n generalizing load with
  | zero => exact Register.apply_out b clk load inWord
  | succ n ih => rw [Bank.apply_succ_out, ih, Bank.word]

/-- In the cycle of a drive every word stays visible. -/
theorem Bank.word_apply (n : Nat) (b : Bank n) (clk : Clock) (inWord : Word) (load : Signal)
    (addr k : BitVec (3 * n)) : Bank.word n (Bank.apply n b clk inWord load addr).2 clk k = Bank.word n b clk k := by
  induction n generalizing load with
  | zero => exact Register.read_apply b clk load inWord
  | succ n ih => rw [Bank.word, Bank.apply_succ_child, ih, Bank.word]

/-- After the edge the addressed word is the loaded one, and every other word is as before. -/
theorem Bank.word_apply_advance (n : Nat) (b : Bank n) (clk : Clock) (inWord : Word) (load : Signal)
    (addr k : BitVec (3 * n)) :
    Bank.word n (Bank.apply n b clk inWord load addr).2 clk.advance k =
      if load = true ∧ k = addr then inWord else Bank.word n b clk k := by
  induction n generalizing load with
  | zero =>
    have only : k = addr := BitVec.eq_of_getLsbD_eq fun _ h => absurd h (Nat.not_lt_zero _)
    simp only [only, and_true]
    exact Register.read_apply_advance b clk load inWord
  | succ n ih =>
    rw [Bank.word, Bank.apply_succ_child, ih, Bank.word]
    simp only [Bool.and_eq_true, decide_eq_true_eq, and_assoc, bankAddr_eq_iff]

/-- Every child is driven at every level, so no cell of a driven bank is stale, in the cycle or in the next. -/
theorem Bank.live_apply (n : Nat) (b : Bank n) {clk clk' : Clock} (inWord : Word) (load : Signal) (addr : BitVec (3 * n))
    (h : clk' = clk ∨ clk' = clk.advance) : Bank.live n (Bank.apply n b clk inWord load addr).2 clk' := by
  induction n generalizing load with
  | zero => exact Register.live_apply b load inWord h
  | succ n ih =>
    intro k
    rw [Bank.apply_succ_child]
    exact ih _ _ _

end Sys2Proof.Machine
end

section
/-! CERTIFICATE. The statements about Clock and storage (42_clock_and_storage.md): O47, O51, O52. -/

namespace Sys2Proof.Machine

/-- Settles O47: in the cycle the old value is visible, at the pending value's due cycle the written one, and after it the
cell is stale. -/
theorem cellReadsAsAnEdgeTriggeredBit : Obligations.CellReadsAsAnEdgeTriggeredBit := by
  refine fun c clk v => ⟨Cell.read_write c clk v, Cell.read_write_advance c clk v, fun n hn => Cell.read_of_stale ?_⟩
  calc (c.write clk v).nextTime = clk.count + 1 := Cell.write_nextTime c clk v
    _ < clk.count + n := by omega

/-- Settles O51: the probe of a program counter leaves its word visible, the second drive always loads, and the word it
loads is the chain of selects. -/
theorem programCounterPriority : Obligations.ProgramCounterPriority := by
  intro r clk inWord load inc reset p
  refine ⟨Register.apply_out r clk false inWord, ?_⟩
  simp only [p, Register.pcApply, Register.read_apply_advance, Register.apply_out, Gate.mux16_eq, Gate.inc16_eq,
    Gate.zeroWord, if_true]

/-- Settles O52: the words after the edge by induction on the depth (`Bank.word_apply_advance`), read back through the
output of the next cycle's `apply`. -/
theorem bankOfAnySizeIsAnArray : Obligations.BankOfAnySizeIsAnArray :=
  fun n b clk inWord load addr =>
    ⟨Bank.apply_out n b clk inWord load addr,
      Bank.word_apply n b clk inWord load addr,
      Bank.word_apply_advance n b clk inWord load addr,
      fun k inWord' => (Bank.apply_out n _ clk.advance inWord' false k).trans
        (Bank.word_apply_advance n b clk inWord load addr k),
      Bank.live_apply n b inWord load addr (.inl rfl),
      Bank.live_apply n b inWord load addr (.inr rfl)⟩

end Sys2Proof.Machine
end

section
/-! SUPPORT. The effect of a compute instruction on all of the state, said once, and the jump conditions as ranges of the
signed result. -/

namespace Sys2Proof.Machine

/-- The second operand, by the source that the `a` bit selects (R204). -/
theorem operandY_eq (src : SrcY) (s : State) :
    operandY src s = match src with
      | .regA => s.A
      | .inM => s.inM := by
  cases src <;> rfl

/-- Every compute instruction completes with its ALU output as result, its jump on the sign of that output (R216). -/
theorem computes_of_shape_comp {i : Instr} {src : SrcY} {c : BitVec 6} {dest : Dest} {jump : Jump}
    (h : i.shape = .comp src c dest jump) (s : State) :
    Computes i s (aluOf c s.D (operandY src s)).out dest jump := by
  refine ⟨_, exec_of_shape_comp h s, finishStep_A .., finishStep_D .., ?pc, ?data, finishStep_carried ..⟩
  case pc => rw [finishStep_PC, pcAfter_eq, ← taken_aluOf]; rfl
  case data =>
    rw [finishStep_A]
    cases dest.m with
    | true => rw [if_pos rfl]; exact finishStep_stored _ _ _ _ _
    | false => rw [if_neg Bool.false_ne_true]; exact finishStep_kept _ _ _ _ _

/-- A compute instruction with `reset` low goes to the old `A` when its result meets the jump condition, and on to the
next address otherwise (R212, R216). -/
theorem exec_comp_PC {i : Instr} {src : SrcY} {c : BitVec 6} {dest : Dest} {jump : Jump}
    (h : i.shape = .comp src c dest jump) {s : State} (low : resetNow s = false) :
    ∃ t, exec i s = .next t ∧
      t.PC = if jumpsOn jump (aluOf c s.D (operandY src s)).out then s.A else s.PC + 1#16 := by
  obtain ⟨t, hexec, -, -, hpc, -⟩ := computes_of_shape_comp h s
  exact ⟨t, hexec, by simpa only [low, Bool.false_eq_true, if_false] using hpc⟩

/-- The signed value of a word is at least -32768 and at most 32767. -/
theorem toInt_bounds (w : Word) : -32768 ≤ w.toInt ∧ w.toInt ≤ 32767 :=
  ⟨BitVec.le_toInt w, Int.le_of_lt_add_one BitVec.toInt_lt⟩

/-- A jump condition holds of a result when the result lies in the range of the condition (R220 to R227). -/
def InJumpRange (jump : Jump) (out : Word) : Prop :=
  match jump with
  | .never => False
  | .jgt => 1 ≤ out.toInt ∧ out.toInt ≤ 32767
  | .jeq => out = 0x0000#16
  | .jge => 0 ≤ out.toInt ∧ out.toInt ≤ 32767
  | .jlt => -32768 ≤ out.toInt ∧ out.toInt ≤ -1
  | .jne => out ≠ 0x0000#16
  | .jle => -32768 ≤ out.toInt ∧ out.toInt ≤ 0
  | .jmp => True

/-- The sign tests of the jump conditions are their ranges of signed 16-bit results. -/
theorem jumpsOn_iff_inJumpRange (jump : Jump) (out : Word) : jumpsOn jump out = true ↔ InJumpRange jump out := by
  have bounds := toInt_bounds out
  have zero : out.toInt = 0 ↔ out = 0x0000#16 := by rw [← BitVec.toInt_inj, BitVec.toInt_zero]
  cases jump with
  | never => exact Bool.false_eq_true.to_iff
  | jgt => simp only [jumpsOn, InJumpRange, decide_eq_true_eq]; omega
  | jeq => simp only [jumpsOn, InJumpRange, decide_eq_true_eq, zero]
  | jge => simp only [jumpsOn, InJumpRange, decide_eq_true_eq]; omega
  | jlt => simp only [jumpsOn, InJumpRange, decide_eq_true_eq]; omega
  | jne => simp only [jumpsOn, InJumpRange, decide_eq_true_eq, zero, ne_eq]
  | jle => simp only [jumpsOn, InJumpRange, decide_eq_true_eq]; omega
  | jmp => exact ⟨fun _ => trivial, fun _ => rfl⟩

end Sys2Proof.Machine
end

section
/-! CERTIFICATE. The statements about the instructions of the CPU (43_cpu_instructions.md): O10, O22. -/

namespace Sys2Proof.Machine

/-- Settles O10: executing an instruction is the step's tail with its fields' values, which is always a next state. -/
theorem everyInstructionCompletes : Obligations.EveryInstructionCompletes := by
  intro i s
  obtain ⟨a, d, p, writeM, outM, hexec⟩ := exec_eq_finishStep i s
  exact ⟨_, hexec⟩

/-- Settles O22: the program counter by whether the result meets the jump condition (`exec_comp_PC`), and the condition as
a range of the signed result (`jumpsOn_iff_inJumpRange`). -/
theorem jumpConditionsReadTheSignOfTheResult : Obligations.JumpConditionsReadTheSignOfTheResult := by
  intro i src c dest jump s hshape low out taken
  obtain ⟨t, hexec, hpc⟩ := exec_comp_PC hshape low
  rw [operandY_eq] at hpc
  have holds : jumpsOn jump out = true ↔ taken := jumpsOn_iff_inJumpRange jump out
  exact ⟨t, hexec, fun h => hpc.trans (if_pos (holds.mpr h)), fun h => hpc.trans (if_neg (mt holds.mp h))⟩

end Sys2Proof.Machine
end

section
/-! SUPPORT. Steps and runs complete (45_computer_step.md R264): no step stops the machine, so no run does. -/

namespace Sys2Proof.Machine

/-- A step is the execution of the decoded instruction, and every instruction completes (R219, R264). -/
theorem step_completes (s : State) : ∃ t, step s = .next t :=
  everyInstructionCompletes (decodeWord (fetchWord s)) s

/-- A run of any length is safe: by induction on its length, the run going on from the state its first step answers. -/
theorem safeRun_all (k : Nat) (s : State) : SafeRun k s := by
  induction k generalizing s with
  | zero => exact ⟨s, run_zero_eq_next_iff.mpr rfl⟩
  | succ k ih =>
    obtain ⟨u, hstep⟩ := step_completes s
    obtain ⟨t, hrun⟩ := ih u
    exact ⟨t, run_succ_eq_next_iff.mpr ⟨u, hstep, hrun⟩⟩

end Sys2Proof.Machine
end

section
/-! CERTIFICATE. The statements about the step of the computer (45_computer_step.md): O9. -/

namespace Sys2Proof.Machine

/-- Settles O9: every step completes (`step_completes`), so by induction every run does (`safeRun_all`). -/
theorem everyStepAnswersANextState : Obligations.EveryStepAnswersANextState :=
  ⟨step_completes, safeRun_all⟩

end Sys2Proof.Machine
end

section
/-! SUPPORT. Where the `reset` input of a step goes (43_cpu_instructions.md R212, 70_reset_and_hazards.md R433): the
values an instruction computes do not read it, and the step's tail drops it and passes the program counter on to nothing
else. -/

namespace Sys2Proof.Machine

/-- The `reset` input is no part of the fetch. -/
theorem fetchWord_withReset (s : State) (r : Signal) : fetchWord (s.withReset r) = fetchWord s := rfl

/-- A step with `reset` set fetches the same word, so it is the same instruction's execution. -/
theorem step_withReset (s : State) (r : Signal) :
    step (s.withReset r) = exec (decodeWord (fetchWord s)) (s.withReset r) := by
  rw [step, fetchWord_withReset]

/-- The step's tail with another `reset` input and another new program counter differs in `PC` and the fetch address
alone, wherever its write goes. -/
theorem finishStep_withReset (s : State) (r r' : Signal) (a d p p' : Word) (writeM : Signal) (outM : Word) :
    finishStep (s.withReset r') a d p' writeM outM =
      { finishStep (s.withReset r) a d p writeM outM with PC := p', pc := low15 p' } := by
  cases writeM with
  | false => rfl
  | true =>
    simp only [finishStep, memRequest, if_true, memWrite, cpuEdge_addressM]
    cases region (low15 a) <;> rfl

/-- Executing an instruction is the step's tail with values that are the same for every `reset` input, but for the program
counter, which follows the priority of R212. -/
theorem exec_withReset (i : Instr) (s : State) :
    ∃ a d jp writeM outM, ∀ r : Signal,
      exec i (s.withReset r) = .next (finishStep (s.withReset r) a d (pcAfter (s.withReset r) jp) writeM outM) := by
  rcases Instr.eq_ofFields i with ⟨value, rfl⟩ | ⟨src, c, dest, jump, rfl⟩
  case inl => exact ⟨literal value, s.D, false, false, 0#16, fun r => exec_loadAddr value (s.withReset r)⟩
  case inr =>
    let result := computed src c s
    exact ⟨register dest.a result.out s.A, register dest.d result.out s.D, Jump.taken jump result, dest.m, result.out,
      fun r => exec_of_shape_comp (Instr.shape_ofFields src c dest jump) (s.withReset r)⟩

/-- With `reset` high the program counter takes 0, whatever the jump says (R212). -/
theorem pcAfter_withReset_true (s : State) (jp : Signal) : pcAfter (s.withReset true) jp = 0x0000#16 := by
  rw [pcAfter_eq, resetNow_withReset, if_pos rfl]

/-- The launch state fetches the word at instruction address 0 (R430). -/
theorem fetchWord_launch (rom : Memory) (ramInit screenInit : List Word) (resetIn : List Signal) (key : Word)
    (keyIn : List Word) : fetchWord (State.launch rom ramInit screenInit resetIn key keyIn) = rom.read 0 := rfl

end Sys2Proof.Machine
end

section
/-! CERTIFICATE. The statements about reset and launch (70_reset_and_hazards.md): O29, O32. -/

namespace Sys2Proof.Machine

/-- Settles O29: both steps are the same tail but for the new program counter (`exec_withReset`), which is 0 with reset
high and changes nothing else (`finishStep_withReset`). -/
theorem resetInputReachesOnlyTheProgramCounter : Obligations.ResetInputReachesOnlyTheProgramCounter := by
  intro s
  obtain ⟨a, d, jp, writeM, outM, hexec⟩ := exec_withReset (decodeWord (fetchWord s)) s
  refine ⟨_, (step_withReset s false).trans (hexec false), (step_withReset s true).trans ((hexec true).trans ?_)⟩
  rw [pcAfter_withReset_true]
  exact congrArg Host.Outcome.next (finishStep_withReset ..)

/-- Settles O32: at launch both the program counter and the carried fetch address are 0, so the word fetched is `ROM[0]`
(`fetchWord_launch`) and the step executes it. -/
theorem executionStartsAtAddressZero : Obligations.ExecutionStartsAtAddressZero := by
  intro rom ramInit screenInit resetIn key keyIn s
  have fetched : fetchWord s = rom.read 0 := fetchWord_launch rom ramInit screenInit resetIn key keyIn
  exact ⟨rfl, rfl, fetched, by rw [step, fetched]⟩

end Sys2Proof.Machine
end

section
/-! SUPPORT. Decoding and encoding as inverses of each other, and an instruction's own row of the opcode table
(30_encoding.md R82, R83, R88, R92). -/

namespace Sys2Proof

/-! ### The fields of a compute instruction's word (table R83) -/

section
variable {i : Instr} {src : SrcY} {c : BitVec 6} {dest : Dest} {jump : Jump}

theorem getLsbD_15_encodeWord_comp (h : i.shape = .comp src c dest jump) : (encodeWord i).getLsbD 15 = true := by
  rw [encode_comp_bit h]; rfl

theorem getLsbD_12_encodeWord_comp (h : i.shape = .comp src c dest jump) : (encodeWord i).getLsbD 12 = src.code := by
  rw [encode_comp_bit h]; cases src <;> rfl

theorem extractLsb'_6_encodeWord_comp (h : i.shape = .comp src c dest jump) : (encodeWord i).extractLsb' 6 6 = c := by
  apply BitVec.eq_of_getLsbD_eq
  intro k hk
  rw [getLsbD_field _ hk, encode_comp_bit h, if_neg (by omega), if_neg (by omega), if_pos (by omega),
    Nat.add_sub_cancel_left]

theorem extractLsb'_3_encodeWord_comp (h : i.shape = .comp src c dest jump) :
    (encodeWord i).extractLsb' 3 3 = dest.code := by
  apply BitVec.eq_of_getLsbD_eq
  intro k hk
  rw [getLsbD_field _ hk, encode_comp_bit h, if_neg (by omega), if_pos (by omega), Nat.add_sub_cancel_left]

theorem extractLsb'_0_encodeWord_comp (h : i.shape = .comp src c dest jump) :
    (encodeWord i).extractLsb' 0 3 = jump.code := by
  apply BitVec.eq_of_getLsbD_eq
  intro k hk
  rw [getLsbD_field _ hk, encode_comp_bit h, if_pos (by omega), Nat.zero_add]

end

/-! ### The two directions -/

/-- The word of an instruction decodes to the instruction: format by format, field by field. -/
@[simp] theorem decodeWord_encodeWord (i : Instr) : decodeWord (encodeWord i) = i := by
  cases h : i.shape with
  | load value =>
    obtain rfl := Instr.eq_of_shape_load h
    have format : (encodeWord (.loadAddr value)).getLsbD 15 = false := encode_load_bit value 15
    rw [decodeWord_load format, extractLsb'_encodeWord_loadAddr]
  | comp src c dest jump =>
    rw [decodeWord_comp (getLsbD_15_encodeWord_comp h), getLsbD_12_encodeWord_comp h, extractLsb'_6_encodeWord_comp h,
      extractLsb'_3_encodeWord_comp h, extractLsb'_0_encodeWord_comp h, SrcY.ofCode_code, Dest.ofCode_code,
      Jump.ofCode_code, Instr.ofFields_of_shape h]

theorem encodeWord_decodeWord_load {w : Word} (h : w.getLsbD 15 = false) : encodeWord (decodeWord w) = w := by
  apply BitVec.eq_of_getLsbD_eq
  intro k hk
  rw [decodeWord_load h, encode_load_bit]
  split
  · next low => rw [getLsbD_field _ low, Nat.zero_add]
  · next high =>
    obtain rfl : k = 15 := by omega
    exact h.symm

/-- Of a compute word everything but bits 14 and 13 is decoded, and these two are emitted high (R88, decision D7). -/
theorem encodeWord_decodeWord_comp {w : Word} (h : w.getLsbD 15 = true) :
    encodeWord (decodeWord w) = w ||| 0x6000#16 := by
  apply BitVec.eq_of_getLsbD_eq
  intro k hk
  rw [encode_comp_bit (shape_decodeWord_comp h), Jump.code_ofCode, Dest.code_ofCode, SrcY.code_ofCode, BitVec.getLsbD_or]
  interval_cases k <;> simp [h]

/-- Words that decode to instructions with one word are the same instruction. -/
theorem decodeWord_eq_of_encodeWord_eq {v w : Word} (h : encodeWord (decodeWord w) = encodeWord (decodeWord v)) :
    decodeWord w = decodeWord v := by
  simpa only [decodeWord_encodeWord] using congrArg decodeWord h

/-! ### The rows of the table (R92) -/

/-- The word of an instruction lies in its own row. -/
theorem encodeWord_and_tableMask (i : Instr) : encodeWord i &&& i.tableMask = i.tableMatch := by
  cases i
  case loadAddr value => exact encode_load_row value
  all_goals exact encode_comp_row rfl rfl

/-- A row's mask is that of the format which bit 15 names (R81). -/
theorem tableMask_eq (i : Instr) :
    i.tableMask = if (encodeWord i).getLsbD 15 then 0x9FC0#16 else 0x8000#16 := by
  cases h : i.shape with
  | load value =>
    obtain rfl := Instr.eq_of_shape_load h
    have format : (encodeWord (.loadAddr value)).getLsbD 15 = false := encode_load_bit value 15
    rw [format]; rfl
  | comp src c dest jump => rw [getLsbD_15_encodeWord_comp h, if_pos rfl]; simp only [Instr.tableMask, h]

theorem getLsbD_15_tableMask (i : Instr) : i.tableMask.getLsbD 15 = true := by
  rw [tableMask_eq]; split <;> rfl

/-- No row looks at bits 14 and 13. -/
theorem or_ignored_and_tableMask (w : Word) (i : Instr) : (w ||| 0x6000#16) &&& i.tableMask = w &&& i.tableMask := by
  apply BitVec.eq_of_getLsbD_eq
  intro k hk
  rw [tableMask_eq]
  split <;> interval_cases k <;> simp

/-- A word lies in the row of the instruction it decodes to. -/
theorem and_tableMask_decodeWord (w : Word) : w &&& (decodeWord w).tableMask = (decodeWord w).tableMatch := by
  rw [← encodeWord_and_tableMask]
  cases h : w.getLsbD 15 with
  | false => rw [encodeWord_decodeWord_load h]
  | true => rw [encodeWord_decodeWord_comp h, or_ignored_and_tableMask]

/-- A word that lies in a row has the format of the row's instruction. -/
theorem getLsbD_15_of_row {w : Word} {i : Instr} (h : w &&& i.tableMask = i.tableMatch) :
    (encodeWord i).getLsbD 15 = w.getLsbD 15 := by
  have bit := congrArg (BitVec.getLsbD · 15) (h.trans (encodeWord_and_tableMask i).symm)
  simpa only [BitVec.getLsbD_and, getLsbD_15_tableMask, Bool.and_true] using bit.symm

end Sys2Proof
end

section
/-! CERTIFICATE. The statements about the encoding (30_encoding.md): O2, O3, O5, O6. -/

namespace Sys2Proof.Machine

/-- Settles O2: one word is read, and it decodes to the instruction (`decodeWord_encodeWord`). -/
theorem decodeOfEncodeIsTheInstruction : Obligations.DecodeOfEncodeIsTheInstruction := by
  intro i rest
  rw [encode, List.singleton_append, decode, decodeWord_encodeWord]

/-- Settles O3, format by format. -/
theorem encodeOfDecodeIsTheWord : Obligations.EncodeOfDecodeIsTheWord := by
  intro w
  split
  · next h => exact encodeWord_decodeWord_comp h
  · next h => exact encodeWord_decodeWord_load (Bool.eq_false_of_not_eq_true h)

/-- Settles O5: with bits 14 and 13 set the two words are one, and that is the word of both instructions. -/
theorem decoderIgnoresBits14And13 : Obligations.DecoderIgnoresBits14And13 := by
  intro v w hv agree
  have hw : w.getLsbD 15 = true := (agree 15 (by decide) (by decide) (by decide)).trans hv
  apply decodeWord_eq_of_encodeWord_eq
  rw [encodeWord_decodeWord_comp hw, encodeWord_decodeWord_comp hv]
  apply BitVec.eq_of_getLsbD_eq
  intro k hk
  rw [BitVec.getLsbD_or, BitVec.getLsbD_or]
  by_cases ignored : k = 13 ∨ k = 14
  · rcases ignored with rfl | rfl <;> simp
  · rw [agree k hk (by omega) (by omega)]

/-- Settles O6: a word that lies in a row has the row's format, so the row has the mask of the word's own row, and with one
mask there is one match value. -/
theorem everyWordMatchesExactlyItsOwnRow : Obligations.EveryWordMatchesExactlyItsOwnRow := by
  intro w i
  have own := and_tableMask_decodeWord w
  constructor
  · intro row
    have mask : i.tableMask = (decodeWord w).tableMask := by
      rw [tableMask_eq, tableMask_eq, getLsbD_15_of_row row, getLsbD_15_of_row own]
    exact ⟨mask, by rw [← row, mask, own]⟩
  · rintro ⟨mask, value⟩
    rw [mask, value, own]

end Sys2Proof.Machine
end

section
/-! SUPPORT. A step as one transition on the bits of the fetched word (45_computer_step.md R262): both formats are the same
tail of a step, with values chosen by bit 15. -/

namespace Sys2Proof.Machine

/-! ### The fields as the word's bits (tables R82, R83) -/

/-- The ALU under the `c` field of a word is the ALU under the word's bits 11 down to 6 (R85). -/
theorem aluOf_field (w x y : Word) :
    aluOf (w.extractLsb' 6 6) x y = alu x y (w.getLsbD 11) (w.getLsbD 10) (w.getLsbD 9) (w.getLsbD 8) (w.getLsbD 7)
      (w.getLsbD 6) := by
  simp only [aluOf, getLsbD_field, Nat.reduceLT, Nat.reduceAdd]

/-- The jump of a word's `jump` field is decided by the word's bits 2 down to 0 (R87). -/
theorem taken_field (w : Word) (r : AluOut) :
    Jump.taken (.ofCode (w.extractLsb' 0 3)) r =
      jumpPredicate r.zr r.ng (w.getLsbD 2) (w.getLsbD 1) (w.getLsbD 0) := by
  simp only [Jump.taken, Jump.code_ofCode, getLsbD_field, Nat.reduceLT, Nat.reduceAdd]

/-- The destinations of a word's `dest` field are the word's bits 5, 4 and 3 (R86). -/
theorem destOfCode_field (w : Word) :
    Dest.ofCode (w.extractLsb' 3 3) = { a := w.getLsbD 5, d := w.getLsbD 4, m := w.getLsbD 3 } := by
  simp only [Dest.ofCode, getLsbD_field, Nat.reduceLT, Nat.reduceAdd]

/-- The literal of a word with bit 15 low is the word (R89). -/
theorem literal_field {w : Word} (h : w.getLsbD 15 = false) : literal (w.extractLsb' 0 15) = w :=
  calc literal (w.extractLsb' 0 15) = encodeWord (.loadAddr (w.extractLsb' 0 15)) := (encodeWord_loadAddr _).symm
    _ = encodeWord (decodeWord w) := by rw [decodeWord_load h]
    _ = w := encodeWord_decodeWord_load h

/-! ### The transition -/

/-- The ALU's outputs in a step that runs a word, read off the word's bits (R204). -/
def wordResult (w : Word) (s : State) : AluOut := computed (.ofCode (w.getLsbD 12)) (w.extractLsb' 6 6) s

/-- The jump signal of a step that runs a word (R209, R210). -/
def wordJump (w : Word) (s : State) : Signal :=
  w.getLsbD 15 && jumpPredicate (wordResult w s).zr (wordResult w s).ng (w.getLsbD 2) (w.getLsbD 1) (w.getLsbD 0)

/-- The new address register of a step that runs a word: the word itself when bit 15 is low (R205). -/
def wordNewA (w : Word) (s : State) : Word :=
  if w.getLsbD 15 then register (w.getLsbD 5) (wordResult w s).out s.A else w

/-- The state that running a word ends in (R262). -/
def runWord (w : Word) (s : State) : State :=
  finishStep s (wordNewA w s) (register (w.getLsbD 15 && w.getLsbD 4) (wordResult w s).out s.D)
    (pcAfter s (wordJump w s)) (w.getLsbD 15 && w.getLsbD 3) (wordResult w s).out

/-- The outputs of a step are the values of its transition (R201). -/
theorem ports_eq (w : Word) (s : State) :
    ports w s =
      { outM := (wordResult w s).out
        writeM := w.getLsbD 15 && w.getLsbD 3
        addressM := low15 (wordNewA w s)
        pc := low15 (pcAfter s (wordJump w s)) } := rfl

/-- Without a write request the step's tail does not look at the word to write. -/
theorem finishStep_false (s : State) (a d p outM outM' : Word) :
    finishStep s a d p false outM = finishStep s a d p false outM' := rfl

/-- Executing the instruction a word decodes to is the transition on the word's bits, in either format. -/
theorem exec_decodeWord (w : Word) (s : State) : exec (decodeWord w) s = .next (runWord w s) := by
  cases h : w.getLsbD 15 with
  | false =>
    rw [decodeWord_load h, exec_loadAddr, loadAddress, literal_field h, finishStep_false _ _ _ _ _ (wordResult w s).out]
    simp only [runWord, wordNewA, wordJump, h, Bool.false_and]
    rfl
  | true =>
    rw [exec_of_shape_comp (shape_decodeWord_comp h), compute, taken_field, destOfCode_field]
    simp only [runWord, wordNewA, wordJump, h, Bool.true_and, if_true]
    rfl

theorem step_eq_runWord (s : State) : step s = .next (runWord (fetchWord s) s) := exec_decodeWord _ s

/-- The data words after a step: the one written at the new address if there is a write request, every other as before. -/
theorem finishStep_data (s : State) (a d p : Word) (writeM : Signal) (outM : Word) :
    if writeM then DataStored s (finishStep s a d p writeM outM) (low15 a) outM
    else DataKept s (finishStep s a d p writeM outM) := by
  cases writeM with
  | false => rw [if_neg Bool.false_ne_true]; exact finishStep_kept s a d p outM
  | true => rw [if_pos rfl]; exact finishStep_stored s a d p outM

/-! ### The transition part by part -/

theorem wordResult_eq (w : Word) (s : State) :
    wordResult w s = alu s.D (if w.getLsbD 12 then s.inM else s.A) (w.getLsbD 11) (w.getLsbD 10) (w.getLsbD 9)
      (w.getLsbD 8) (w.getLsbD 7) (w.getLsbD 6) := by
  rw [wordResult, computed, aluOf_field, operandX, operandY, SrcY.code_ofCode, choose]

/-- The jump predicate as the document writes it (R209). -/
theorem jumpPredicate_eq (zr ng j2 j1 j0 : Signal) :
    jumpPredicate zr ng j2 j1 j0 = ((j2 && ng) || (j1 && zr) || (j0 && !ng && !zr)) := by
  rw [jumpPredicate, Bool.and_assoc j0, Bool.and_comm (!ng)]

theorem runWord_A (w : Word) (s : State) :
    (runWord w s).A = if w.getLsbD 15 = false then w else if w.getLsbD 5 then (wordResult w s).out else s.A := by
  rw [runWord, finishStep_A, wordNewA]
  cases w.getLsbD 15 <;> rfl

theorem runWord_D (w : Word) (s : State) :
    (runWord w s).D = if w.getLsbD 15 && w.getLsbD 4 then (wordResult w s).out else s.D := by
  rw [runWord, finishStep_D, register, choose]

theorem runWord_PC (w : Word) (s : State) :
    (runWord w s).PC = if resetNow s then 0x0000#16 else if wordJump w s then s.A else s.PC + 1#16 := by
  rw [runWord, finishStep_PC, pcAfter_eq]

theorem runWord_carried (w : Word) (s : State) : Carried s (runWord w s) := finishStep_carried ..

theorem runWord_data (w : Word) (s : State) :
    if w.getLsbD 15 && w.getLsbD 3 then DataStored s (runWord w s) (low15 (runWord w s).A) (wordResult w s).out
    else DataKept s (runWord w s) := by
  rw [show (runWord w s).A = wordNewA w s from finishStep_A ..]
  exact finishStep_data ..

theorem eq_runWord_of_step {s t : State} (h : step s = .next t) : t = runWord (fetchWord s) s :=
  Host.Outcome.next.inj (h.symm.trans (step_eq_runWord s))

/-! ### The invariant -/

/-- The step's tail keeps the invariant: its write stays inside the stores, the addresses are sampled from the registers
they copy, and both Clocks advance with the step number (R256, R259). -/
theorem inv_finishStep {s : State} (inv : s.Inv) (a d p : Word) (writeM : Signal) (outM : Word) :
    (finishStep s a d p writeM outM).Inv := by
  obtain ⟨hram, hscreen, hrom, -, -, hcpu, hext⟩ := inv
  obtain ⟨ramAfter, screenAfter⟩ := finishStep_stores s a d p writeM outM
  refine ⟨?ram, ?screen, ?rom, ?pc, ?addressM, ?cpuClock, ?extClock⟩
  case ram => rw [ramAfter]; exact memRequest_ram_wf _ _ _ hram
  case screen => rw [screenAfter]; exact memRequest_screen_wf _ _ _ hscreen
  case rom => rw [finishStep_rom]; exact hrom
  case pc => rw [finishStep_pc, finishStep_PC]
  case addressM => rw [finishStep_addressM, finishStep_A]
  case cpuClock => rw [finishStep_cpuClock, finishStep_t, hcpu]
  case extClock => rw [finishStep_extClock, finishStep_t, hext]

end Sys2Proof.Machine
end

section
/-! CERTIFICATE. The invariant of the step (10_state.md §4, 45_computer_step.md §3): O34. -/

namespace Sys2Proof.Machine

/-- Settles O34: every step is the step's tail with some values, and the tail keeps the invariant (`inv_finishStep`). -/
theorem everyStepKeepsTheInvariant : Obligations.EveryStepKeepsTheInvariant := by
  intro s t inv hstep
  obtain ⟨a, d, p, writeM, outM, rfl⟩ := eq_finishStep_of_step hstep
  exact inv_finishStep inv a d p writeM outM

end Sys2Proof.Machine
end

section
/-! SUPPORT. The selects and splits with two selector bits by the index they pick (40_signal_algebra.md R117, R123,
R125), and the adders' arithmetic (41_arithmetic_alu.md R140, R141). -/

namespace Sys2Proof.Machine

@[simp] theorem Gate.demux_eq (inp sel : Signal) :
    Gate.demux inp sel = if sel then (false, inp) else (inp, false) := by
  rw [Gate.demux, Gate.and_eq, Gate.and_eq, Gate.not_eq]
  cases sel <;> simp

theorem Gate.mux4way16_eq (w : Fin 4 → Word) (sel : BitVec 2) :
    Gate.mux4way16 (w 0) (w 1) (w 2) (w 3) sel = w sel.toFin := by
  obtain ⟨k⟩ := sel
  simp only [Gate.mux4way16, Gate.mux16_eq]
  fin_cases k <;> rfl

@[simp] theorem Gate.demux4way_eq (inp : Signal) (sel : BitVec 2) (k : Fin 4) :
    Gate.demux4way inp sel k = (inp && decide (k = sel.toFin)) := by
  revert inp sel k
  decide

/-- A half adder's outputs are its inputs' sum in two binary digits. -/
theorem Gate.halfAdder_sum (a b : Signal) :
    2 * (Gate.halfAdder a b).2.toNat + (Gate.halfAdder a b).1.toNat = a.toNat + b.toNat := by
  cases a <;> cases b <;> rfl

/-- A full adder's outputs are its inputs' sum in two binary digits. -/
theorem Gate.fullAdder_sum (a b c : Signal) :
    2 * (Gate.fullAdder a b c).2.toNat + (Gate.fullAdder a b c).1.toNat = a.toNat + b.toNat + c.toNat := by
  cases a <;> cases b <;> cases c <;> rfl

end Sys2Proof.Machine
end

section
/-! SUPPORT. A cell over a cycle (42_clock_and_storage.md R163 to R168): several writes before one edge, the abstract cell,
and cycles without a drive. -/

namespace Sys2Proof.Machine

/-- However many values are written in a cycle, the visible one stays. -/
theorem Cell.read_writes (c : Cell) (clk : Clock) (vs : List Signal) :
    (vs.foldl (fun (c : Cell) v => c.write clk v) c).read clk = c.read clk := by
  induction vs generalizing c with
  | nil => rfl
  | cons v vs ih => rw [List.foldl_cons, ih, Cell.read_write]

/-- Of the writes of one cycle the last one is visible after the edge. -/
theorem Cell.read_writes_advance (c : Cell) (clk : Clock) (vs : List Signal) (v : Signal) :
    ((vs ++ [v]).foldl (fun (c : Cell) v => c.write clk v) c).read clk.advance = v := by
  rw [List.foldl_append, List.foldl_cons, List.foldl_nil, Cell.read_write_advance]

/-- A cell with no write pending is stale after the edge. -/
theorem Cell.read_advance_of_not_written {c : Cell} {clk : Clock} (h : c.nextTime ≤ clk.now) :
    c.read clk.advance = false :=
  Cell.read_of_stale (Nat.lt_succ_of_le h)

/-- A live cell two or more cycles later is stale (R168). -/
theorem Cell.read_of_live_of_le {c : Cell} {clk : Clock} (h : c.live clk) {m : Nat} (hm : 2 ≤ m) :
    c.read { count := clk.count + m } = false := by
  have due : c.nextTime ≤ clk.count + 1 := by
    rcases h with h | h
    · exact Nat.le_of_eq h
    · exact h ▸ Nat.le_succ _
  exact Cell.read_of_stale (Nat.lt_of_le_of_lt due (Nat.add_lt_add_left hm _))

/-! ### The abstract cell (R167) -/

/-- Beside a cell's visible value the abstract cell has what is pending. -/
theorem Cell.abstract_write (c : Cell) (clk : Clock) (v : Signal) :
    (c.write clk v).abstract clk = (c.abstract clk).write v := by
  rw [Cell.abstract, Cell.read_write, Cell.write_next, if_pos (Cell.write_nextTime c clk v)]
  rfl

/-- At an edge the pending value becomes the visible one, or the cell goes low. -/
theorem Cell.abstract_advance {c : Cell} {clk : Clock} (h : c.timely clk) :
    c.abstract clk.advance = (c.abstract clk).advance := by
  have notPending : ¬ c.nextTime = clk.advance.now + 1 := Nat.ne_of_lt (Nat.lt_succ_of_le h)
  by_cases due : c.nextTime = clk.now + 1
  · rw [Cell.abstract, Cell.abstract, if_neg notPending, if_pos due, Cell.read_of_due (clk := clk.advance) due]
    rfl
  · rw [Cell.abstract, Cell.abstract, if_neg notPending, if_neg due,
      Cell.read_advance_of_not_written (Nat.le_of_lt_succ (Nat.lt_of_le_of_ne h due))]
    rfl

theorem Cell.timely_write (c : Cell) (clk : Clock) (v : Signal) : (c.write clk v).timely clk :=
  Nat.le_of_eq (Cell.write_nextTime c clk v)

theorem Cell.timely_advance {c : Cell} {clk : Clock} (h : c.timely clk) : c.timely clk.advance :=
  Nat.le_succ_of_le h

theorem Cell.abstract_launch (b : Signal) : (Cell.launch b).abstract { count := 0 } = { v := b, p := none } := rfl

/-! ### Registers and banks without a drive -/

/-- A live register two or more cycles later reads low in every bit. -/
theorem Register.read_of_live_of_le {r : Register} {clk : Clock} (h : r.live clk) {m : Nat} (hm : 2 ≤ m) :
    r.read { count := clk.count + m } = 0x0000#16 :=
  wordOfWires_eq fun k => by rw [Cell.read_of_live_of_le (h k) hm, BitVec.getLsbD_zero]

/-- A live bank two or more cycles later reads low at every address. -/
theorem Bank.word_of_live_of_le {n : Nat} {b : Bank n} {clk : Clock} (h : Bank.live n b clk) {m : Nat} (hm : 2 ≤ m)
    (addr : BitVec (3 * n)) : Bank.word n b { count := clk.count + m } addr = 0x0000#16 := by
  induction n with
  | zero => exact Register.read_of_live_of_le h hm
  | succ n ih => exact ih (h _) _

end Sys2Proof.Machine
end

section
/-! SUPPORT. The RAM of 16384 words as an array (42_clock_and_storage.md R181): one 4-way composition over banks of 4096
words, and the words of a bank at launch. -/

namespace Sys2Proof.Machine

/-! ### Launch -/

/-- A bit vector as a number is its upper field, shifted over its lower one, plus the lower one. -/
theorem toNat_fields {w lo hi : Nat} (hw : w = lo + hi) (addr : BitVec w) :
    (addr.extractLsb' lo hi).toNat * 2 ^ lo + (addr.extractLsb' 0 lo).toNat = addr.toNat := by
  have upper : addr.toNat / 2 ^ lo < 2 ^ hi :=
    Nat.div_lt_of_lt_mul (by rw [← Nat.pow_add, ← hw]; exact addr.isLt)
  rw [BitVec.extractLsb'_toNat, BitVec.extractLsb'_toNat, Nat.shiftRight_eq_div_pow, Nat.shiftRight_zero,
    Nat.mod_eq_of_lt upper, Nat.div_add_mod']

/-- An address put together from the child it selects and its address inside that child is the address. -/
theorem bankAddr_ofNat {n : Nat} (addr : BitVec (3 * (n + 1))) :
    BitVec.ofNat (3 * (n + 1)) ((bankHi n addr).toNat * 2 ^ (3 * n) + (bankLo n addr).toNat) = addr := by
  rw [bankHi, bankLo, toNat_fields (Nat.mul_succ 3 n), BitVec.ofNat_toNat, BitVec.setWidth_eq]

/-- A bank at launch shows its launch words. -/
theorem Bank.word_launch (n : Nat) (init : BitVec (3 * n) → Word) (addr : BitVec (3 * n)) :
    Bank.word n (Bank.launch n init) { count := 0 } addr = init addr := by
  induction n with
  | zero =>
    have only : addr = 0 := BitVec.eq_of_getLsbD_eq fun _ h => absurd h (Nat.not_lt_zero _)
    rw [only]
    exact Register.read_launch (init 0)
  | succ n ih => exact (ih _ _).trans (congrArg init (bankAddr_ofNat addr))

/-! ### One level of 4-way composition -/

theorem ramAddr_ofNat (addr : BitVec 14) :
    BitVec.ofNat 14 ((ramHi addr).toNat * 4096 + (ramLo addr).toNat) = addr := by
  have value : (ramHi addr).toNat * 4096 + (ramLo addr).toNat = addr.toNat := toNat_fields (lo := 12) (hi := 2) rfl addr
  rw [value, BitVec.ofNat_toNat, BitVec.setWidth_eq]

/-- An address is the bank it selects and its address inside that bank. -/
theorem ramAddr_eq_iff {k addr : BitVec 14} :
    k = addr ↔ (ramHi k).toFin = (ramHi addr).toFin ∧ ramLo k = ramLo addr := by
  refine ⟨by rintro rfl; exact ⟨rfl, rfl⟩, fun ⟨child, lo⟩ => ?_⟩
  rw [← ramAddr_ofNat k, ← ramAddr_ofNat addr, BitVec.toFin_inj.mp child, lo]

/-- The RAM's output is the visible word at the address. -/
theorem Ram16K.apply_out (b : Ram16K) (clk : Clock) (inWord : Word) (load : Signal) (addr : BitVec 14) :
    (b.apply clk inWord load addr).1 = b.word clk addr := by
  let child := fun k => Bank.apply 4 (b k) clk inWord (Gate.and load (Gate.demux4way true (ramHi addr) k)) (ramLo addr)
  exact (Gate.mux4way16_eq (fun k => (child k).1) (ramHi addr)).trans (Bank.apply_out 4 _ clk inWord _ _)

/-- Every bank is driven, with `load` high only if it is the addressed one. -/
theorem Ram16K.apply_child (b : Ram16K) (clk : Clock) (inWord : Word) (load : Signal) (addr : BitVec 14) (k : Fin 4) :
    (b.apply clk inWord load addr).2 k =
      (Bank.apply 4 (b k) clk inWord (load && decide (k = (ramHi addr).toFin)) (ramLo addr)).2 := by
  simp only [Ram16K.apply, Gate.demux4way_eq, Gate.and_eq, Bool.true_and]

/-- In the cycle of a drive every word stays visible. -/
theorem Ram16K.word_apply (b : Ram16K) (clk : Clock) (inWord : Word) (load : Signal) (addr k : BitVec 14) :
    (b.apply clk inWord load addr).2.word clk k = b.word clk k := by
  rw [Ram16K.word, Ram16K.apply_child, Bank.word_apply, Ram16K.word]

/-- After the edge the addressed word is the loaded one, and every other word is as before. -/
theorem Ram16K.word_apply_advance (b : Ram16K) (clk : Clock) (inWord : Word) (load : Signal) (addr k : BitVec 14) :
    (b.apply clk inWord load addr).2.word clk.advance k =
      if load = true ∧ k = addr then inWord else b.word clk k := by
  rw [Ram16K.word, Ram16K.apply_child, Bank.word_apply_advance, Ram16K.word]
  simp only [Bool.and_eq_true, decide_eq_true_eq, and_assoc, ramAddr_eq_iff]

/-- No cell of a driven RAM is stale, in the cycle of the drive or in the next. -/
theorem Ram16K.live_apply (b : Ram16K) {clk clk' : Clock} (inWord : Word) (load : Signal) (addr : BitVec 14)
    (h : clk' = clk ∨ clk' = clk.advance) : (b.apply clk inWord load addr).2.live clk' := by
  intro k
  rw [Ram16K.apply_child]
  exact Bank.live_apply 4 _ _ _ _ h

theorem Ram16K.word_launch (init : BitVec 14 → Word) (addr : BitVec 14) :
    (Ram16K.launch init).word { count := 0 } addr = init addr :=
  (Bank.word_launch 4 _ _).trans (congrArg init (ramAddr_ofNat addr))

theorem Ram16K.live_launch (init : BitVec 14 → Word) : (Ram16K.launch init).live { count := 0 } :=
  fun _ => Bank.live_launch 4 _

end Sys2Proof.Machine
end

section
/-! CERTIFICATE. The statements about gates, cells and banks (40_signal_algebra.md to 42_clock_and_storage.md): O44, O45,
O48, O49, O50, O53, O54. -/

namespace Sys2Proof.Machine

/-- Settles O44, selector by selector. -/
theorem selectorsPickTheirIndex : Obligations.SelectorsPickTheirIndex :=
  ⟨Gate.mux_eq, Gate.demux_eq, Gate.mux4way16_eq, Gate.mux8way16_eq, Gate.demux4way_eq, Gate.demux8way_eq,
    Gate.or8way_eq_true_iff⟩

/-- Settles O45: the ripple is addition (`Gate.add16_eq`), so its laws are those of addition. -/
theorem rippleAdderIsAddition : Obligations.RippleAdderIsAddition := by
  refine ⟨fun v w => ⟨Gate.add16_eq v w, ?comm, ?value, Gate.inc16_eq w⟩, Gate.halfAdder_sum, Gate.fullAdder_sum⟩
  case comm => rw [Gate.add16_eq, Gate.add16_eq, BitVec.add_comm]
  case value => rw [Gate.add16_eq, BitVec.toNat_add]

/-- Settles O48: the visible value by induction on the writes, the value after the edge by the last of them. -/
theorem cellWritesOfACycle : Obligations.CellWritesOfACycle :=
  fun c clk vs => ⟨Cell.read_writes c clk vs, Cell.read_writes_advance c clk vs, Cell.read_advance_of_not_written⟩

/-- Settles O49, operation by operation. -/
theorem cellSimulatesTheAbstractCell : Obligations.CellSimulatesTheAbstractCell :=
  ⟨fun c clk v timely => ⟨rfl, Cell.abstract_write c clk v, Cell.abstract_advance timely, Cell.timely_write c clk v,
    Cell.timely_advance timely⟩, Cell.abstract_launch⟩

/-- Settles O50: the first `apply` of a cycle leaves the visible word, so the second one holds or replaces that word. -/
theorem registerHoldsUnlessLoaded : Obligations.RegisterHoldsUnlessLoaded := by
  intro r clk load load' w w'
  refine ⟨Register.apply_out r clk load w, Register.read_apply r clk load w, Register.read_apply_advance r clk load w,
    ?second, Register.live_apply r load w (.inl rfl), Register.live_apply r load w (.inr rfl)⟩
  case second => rw [Register.read_apply_advance, Register.read_apply]

/-- Settles O53: the laws of the four banks, through the selector (`Ram16K.apply_child`, `ramAddr_eq_iff`). -/
theorem ramOf16384WordsIsAnArray : Obligations.RamOf16384WordsIsAnArray :=
  ⟨fun b clk inWord load addr =>
    ⟨Ram16K.apply_out b clk inWord load addr,
      Ram16K.word_apply b clk inWord load addr,
      Ram16K.word_apply_advance b clk inWord load addr,
      Ram16K.live_apply b inWord load addr (.inl rfl),
      Ram16K.live_apply b inWord load addr (.inr rfl)⟩,
    fun init k => ⟨Ram16K.word_launch init k, Ram16K.live_launch init⟩⟩

/-- Settles O54: two cycles after the last drive every pending value is past its due cycle. -/
theorem undrivenBankReadsLow : Obligations.UndrivenBankReadsLow :=
  fun _ _ _ _ addr live hm => Bank.word_of_live_of_le live hm addr

end Sys2Proof.Machine
end

section
/-! SUPPORT. One cycle of the CPU built from registers and gates (43_cpu_instructions.md R201, R214): what its registers show
after the edge, and its outputs. -/

namespace Sys2Proof.Machine

/-! ### The program counter's register (R184, R185) -/

theorem Register.pcApply_out (r : Register) (clk : Clock) (inWord : Word) (load inc reset : Signal) :
    (r.pcApply clk inWord load inc reset).1 = r.read clk := rfl

/-- In the cycle of a drive a program counter still shows its old word. -/
theorem Register.read_pcApply (r : Register) (clk : Clock) (inWord : Word) (load inc reset : Signal) :
    (r.pcApply clk inWord load inc reset).2.read clk = r.read clk := by
  rw [Register.pcApply, Register.read_apply, Register.read_apply]

/-- After the edge it shows its next value, by the priority of table R186. -/
theorem Register.read_pcApply_advance (r : Register) (clk : Clock) (inWord : Word) (load inc reset : Signal) :
    (r.pcApply clk inWord load inc reset).2.read clk.advance = pcNext (r.read clk) inWord load inc reset := by
  rw [(programCounterPriority r clk inWord load inc reset).2]
  rfl

theorem Register.live_pcApply (r : Register) {clk clk' : Clock} (inWord : Word) (load inc reset : Signal)
    (h : clk' = clk ∨ clk' = clk.advance) : (r.pcApply clk inWord load inc reset).2.live clk' :=
  Register.live_apply _ true _ h

/-! ### The cycle -/

/-- The CPU shows the registers of a state, no cell of it is stale, and its Clock is the state's. -/
structure CellCpu.Shows (cpu : CellCpu) (s : State) : Prop where
  a : cpu.a.read cpu.clock = s.A
  d : cpu.d.read cpu.clock = s.D
  pc : cpu.pc.read cpu.clock = s.PC
  aLive : cpu.a.live cpu.clock
  dLive : cpu.d.live cpu.clock
  pcLive : cpu.pc.live cpu.clock
  cpuClock : cpu.clock.count = s.cpuClock

section
variable {cpu : CellCpu} {s : State} (w : Word)

/-- The ALU of the cycle computes the result of the word (lines 1 to 4). -/
theorem gateAlu_eq_wordResult (h : cpu.Shows s) :
    Gate.alu (cpu.d.read cpu.clock) (Gate.mux16 (cpu.a.read cpu.clock) s.inM (w.getLsbD 12))
      (w.getLsbD 11) (w.getLsbD 10) (w.getLsbD 9) (w.getLsbD 8) (w.getLsbD 7) (w.getLsbD 6) = wordResult w s := by
  rw [h.a, h.d, Gate.mux16_eq, Gate.alu_eq, wordResult_eq]

theorem gateJumpPredicate_eq (zr ng j2 j1 j0 : Signal) :
    Gate.jumpPredicate zr ng j2 j1 j0 = jumpPredicate zr ng j2 j1 j0 := by
  simp only [Gate.jumpPredicate, Gate.or_eq, Gate.and_eq, Gate.not_eq, jumpPredicate]

/-- After the edge the address register shows the new `A`: the word itself in a load-address instruction (line 5). -/
theorem cycle_newA (h : cpu.Shows s) :
    ((cpu.a.apply cpu.clock false w).2.apply cpu.clock
      (Gate.or (Gate.not (w.getLsbD 15)) (Gate.and (w.getLsbD 15) (w.getLsbD 5)))
      (Gate.mux16 w (wordResult w s).out (w.getLsbD 15))).2.read cpu.clock.advance = wordNewA w s := by
  rw [Register.read_apply_advance, Register.read_apply, h.a, wordNewA, register, choose, Gate.mux16_eq, Gate.or_eq,
    Gate.not_eq, Gate.and_eq]
  cases w.getLsbD 15 <;> rfl

/-- After the edge the program counter shows its next value, the jump taken in a compute instruction only (line 8). -/
theorem cycle_newPC (h : cpu.Shows s) (i jp : Signal) :
    (cpu.pc.pcApply cpu.clock (cpu.a.read cpu.clock) (Gate.and i jp) (Gate.or (Gate.not i) (Gate.not jp))
      (resetNow s)).2.read cpu.clock.advance = pcAfter s (i && jp) := by
  rw [Register.read_pcApply_advance, h.a, h.pc, Gate.and_eq, Gate.or_eq, Gate.not_eq, Gate.not_eq, ← Bool.not_and,
    pcAfter]

/-- The outputs of the cycle are the ports (line 9). -/
theorem cycle_outputs (h : cpu.Shows s) : (cpu.cycle s.inM w (resetNow s)).1 = ports w s := by
  simp only [CellCpu.cycle, Register.apply_out, Register.pcApply_out, gateAlu_eq_wordResult w h, gateJumpPredicate_eq]
  rw [ports_eq, Gate.and_eq]
  congr 2
  · exact cycle_newA w h
  · exact cycle_newPC h _ _

/-- After the edge the data register shows the new `D` (line 6). -/
theorem cycle_newD (h : cpu.Shows s) :
    ((cpu.d.apply cpu.clock false w).2.apply cpu.clock (Gate.and (w.getLsbD 15) (w.getLsbD 4))
      (wordResult w s).out).2.read cpu.clock.advance =
      register (w.getLsbD 15 && w.getLsbD 4) (wordResult w s).out s.D := by
  rw [Register.read_apply_advance, Register.read_apply, h.d, register, choose, Gate.and_eq]

/-- After the cycle the CPU shows the registers of the state that running the word ends in. -/
theorem cycle_shows (h : cpu.Shows s) : (cpu.cycle s.inM w (resetNow s)).2.Shows (runWord w s) := by
  simp only [CellCpu.cycle, Register.apply_out, gateAlu_eq_wordResult w h, gateJumpPredicate_eq]
  refine ⟨?a, ?d, ?pc, ?aLive, ?dLive, ?pcLive, ?cpuClock⟩ <;> dsimp only
  case a => rw [Register.read_apply, cycle_newA w h, runWord, finishStep_A]
  case d => rw [cycle_newD w h, runWord, finishStep_D]
  case pc => rw [Register.read_pcApply, cycle_newPC h, runWord, finishStep_PC, wordJump]
  case aLive => exact Register.live_apply _ _ _ (.inl rfl)
  case dLive => exact Register.live_apply _ _ _ (.inr rfl)
  case pcLive => exact Register.live_pcApply _ _ _ _ _ (.inl rfl)
  case cpuClock => rw [runWord, finishStep_cpuClock, ← h.cpuClock, Clock.advance]

end

end Sys2Proof.Machine
end

section
/-! SUPPORT. The data memory built from banks (20_memory.md R52, R63): a call with `load` high and the edge after it are a
write request, and a call with `load` low is a read. -/

namespace Sys2Proof.Machine

/-! ### The address map by bits 14 and 13 (table R52) -/

theorem memRead_eq (s : State) (addr : Addr) :
    memRead s addr =
      if addr.getLsbD 14 then
        if addr.getLsbD 13 then if addr.toNat = Config.keyboardAddr then s.keyboard else Config.highRead addr s.t
        else s.screen.read (addr.extractLsb' 0 13).toNat
      else s.ram.read (addr.extractLsb' 0 14).toNat := by
  rw [memRead, region]
  split_ifs <;> rfl

/-- A write request reaches RAM when bit 14 of its address is low. -/
theorem memRequest_ram (s : State) (writeM : Signal) (addr : Addr) (v : Word) :
    (memRequest s writeM addr v).ram =
      if writeM && !addr.getLsbD 14 then s.ram.write (addr.extractLsb' 0 14).toNat v else s.ram := by
  cases writeM with
  | false => rfl
  | true =>
    rw [memRequest, if_pos rfl, memWrite, region]
    cases addr.getLsbD 14 with
    | false => rfl
    | true => simp only [Bool.not_true, Bool.and_false, Bool.false_eq_true, if_true, if_false]; split_ifs <;> rfl

/-- A write request reaches the display when bit 14 of its address is high and bit 13 low. -/
theorem memRequest_screen (s : State) (writeM : Signal) (addr : Addr) (v : Word) :
    (memRequest s writeM addr v).screen =
      if writeM && (addr.getLsbD 14 && !addr.getLsbD 13) then s.screen.write (addr.extractLsb' 0 13).toNat v
      else s.screen := by
  cases writeM with
  | false => rfl
  | true =>
    rw [memRequest, if_pos rfl, memWrite, region]
    cases addr.getLsbD 14 with
    | false => rfl
    | true =>
      cases addr.getLsbD 13 with
      | false => rfl
      | true => simp only [Bool.not_true, Bool.and_false, Bool.false_eq_true, if_true, if_false]; split_ifs <;> rfl

/-- A data read depends on the two stores, the keyboard word and the step number. -/
theorem memRead_eq_of_same_data {s t : State} (ram : t.ram = s.ram) (screen : t.screen = s.screen)
    (keyboard : t.keyboard = s.keyboard) (time : t.t = s.t) (addr : Addr) : memRead t addr = memRead s addr := by
  rw [memRead_eq, memRead_eq, ram, screen, keyboard, time]

/-- The refresh of a step reads the data memory after the write request. -/
theorem finishStep_inM_eq_memRead (s : State) (a d p : Word) (writeM : Signal) (outM : Word) :
    (finishStep s a d p writeM outM).inM = memRead (memRequest s writeM (low15 a) outM) (low15 a) := by
  simp only [finishStep, nextInputs_inM, refresh_inM, extEdge_addressM, memRequest_addressM, cpuEdge_addressM]
  apply memRead_eq_of_same_data
  · rw [extEdge_ram, memRequest_ram, memRequest_ram, cpuEdge_ram]
  · rw [extEdge_screen, memRequest_screen, memRequest_screen, cpuEdge_screen]
  · rw [extEdge_keyboard, memRequest_keyboard, memRequest_keyboard, cpuEdge_keyboard]
  · rw [extEdge_t, memRequest_t, memRequest_t, cpuEdge_t]

/-! ### The parts of the data memory -/

/-- The data memory shows the RAM and the display of a state: no cell is stale and no write is pending. -/
structure DataMemory.Shows (m : DataMemory) (clk : Clock) (s : State) : Prop where
  ram : ∀ addr : BitVec 14, m.ram.word clk addr = s.ram.read addr.toNat
  ramLive : m.ram.live clk
  screen : m.screen = { words := s.screen, pending := none }

/-- What the memory shows is the two stores alone. -/
theorem DataMemory.Shows.congr {m : DataMemory} {clk : Clock} {s t : State} (h : m.Shows clk s) (ram : t.ram = s.ram)
    (screen : t.screen = s.screen) : m.Shows clk t :=
  ⟨ram ▸ h.ram, h.ramLive, screen ▸ h.screen⟩

/-- The edge of the external Clock at the data memory. -/
def DataMemory.edge (m : DataMemory) : DataMemory := { ram := m.ram, screen := m.screen.edge }

section
variable {m : DataMemory} {clk : Clock} {s : State} (v : Word) (load : Signal) (addr : Addr) (kbd : Word)
  (high : Addr → Word)

/-- Every call drives RAM, with `load` high only below the device space. -/
theorem DataMemory.apply_ram :
    (m.apply clk v load addr kbd high).2.ram =
      (m.ram.apply clk v (load && !addr.getLsbD 14) (addr.extractLsb' 0 14)).2 := by
  rw [DataMemory.apply, Gate.not_eq, Gate.and_eq]

/-- Every call drives the display, with `load` high only in the display's window. -/
theorem DataMemory.apply_screen :
    (m.apply clk v load addr kbd high).2.screen =
      (m.screen.apply v (load && (addr.getLsbD 14 && !addr.getLsbD 13)) (addr.extractLsb' 0 13)).2 := by
  simp only [DataMemory.apply, Gate.not_eq, Gate.and_eq]

/-- After a call and the edge the memory shows the stores after the write request of the call. -/
theorem DataMemory.shows_apply_edge (h : m.Shows clk s) :
    (m.apply clk v load addr kbd high).2.edge.Shows clk.advance (memRequest s load addr v) := by
  refine ⟨fun k => ?ram, ?ramLive, ?screen⟩ <;> rw [DataMemory.edge]
  case ram =>
    rw [DataMemory.apply_ram, Ram16K.word_apply_advance, h.ram, memRequest_ram]
    cases load && !addr.getLsbD 14 with
    | false => simp only [Bool.false_eq_true, false_and, if_false]
    | true => simp only [true_and, if_true, Memory.read_write, BitVec.toNat_inj]
  case ramLive => rw [DataMemory.apply_ram]; exact Ram16K.live_apply _ _ _ _ (.inr rfl)
  case screen =>
    rw [DataMemory.apply_screen, h.screen, memRequest_screen]
    cases load && (addr.getLsbD 14 && !addr.getLsbD 13) <;> rfl

/-- A call with `load` low leaves what the memory shows. -/
theorem DataMemory.shows_apply_false (h : m.Shows clk s) : (m.apply clk v false addr kbd high).2.Shows clk s := by
  refine ⟨fun k => ?ram, ?ramLive, ?screen⟩
  case ram => rw [DataMemory.apply_ram, Ram16K.word_apply, h.ram]
  case ramLive => rw [DataMemory.apply_ram]; exact Ram16K.live_apply _ _ _ _ (.inl rfl)
  case screen => rw [DataMemory.apply_screen, h.screen]; rfl

/-- A call answers the word at the address when the keyboard word and the open values given are those of the state. -/
theorem DataMemory.apply_out (h : m.Shows clk s) (keyboard : s.keyboard = kbd)
    (open_ : ∀ addr, high addr = Config.highRead addr s.t) :
    (m.apply clk v load addr kbd high).1 = memRead s addr := by
  rw [DataMemory.apply, Gate.mux16_eq, Gate.mux16_eq, Ram16K.apply_out, h.ram, h.screen, memRead_eq, open_, keyboard]
  rfl

end

/-- The data memory over a step: after the write request and the edge, the refresh read answers the new `inM` and leaves
the memory showing the new stores (R253, R254, R256). -/
theorem DataMemory.shows_finishStep {m : DataMemory} {clk : Clock} {s : State} (h : m.Shows clk s) (a d p : Word)
    (writeM : Signal) (outM : Word) :
    let high := fun addr => Config.highRead addr s.t
    let written := (m.apply clk outM writeM (low15 a) s.keyboard high).2.edge
    let fresh := written.apply clk.advance outM false (low15 a) s.keyboard high
    fresh.2.Shows clk.advance (finishStep s a d p writeM outM) ∧ fresh.1 = (finishStep s a d p writeM outM).inM := by
  intro high written fresh
  have after : written.Shows clk.advance (memRequest s writeM (low15 a) outM) := shows_apply_edge outM writeM _ _ _ h
  obtain ⟨ram, screen⟩ := finishStep_stores s a d p writeM outM
  refine ⟨(shows_apply_false outM _ _ _ after).congr ram screen, ?_⟩
  rw [finishStep_inM_eq_memRead]
  exact apply_out outM false _ _ _ after (memRequest_keyboard ..) fun addr => by rw [memRequest_t]

end Sys2Proof.Machine
end

section
/-! SUPPORT. The Computer built from cells as its CPU, its data memory and the carried values (45_computer_step.md R258 to
R260, R169). -/

namespace Sys2Proof.Machine

/-- What a machine that represents a state shows, part by part. -/
theorem represents_iff (c : CellComputer) (s : State) :
    Represents c s ↔ c.cpu.Shows s ∧ c.mem.Shows c.clock s ∧ c.clock.count = s.extClock ∧ c.rom = s.rom ∧
      c.pc = s.pc ∧ c.addressM = s.addressM ∧ c.inM = s.inM := by
  constructor
  · exact fun h => ⟨⟨h.a, h.d, h.pc, h.aLive, h.dLive, h.pcLive, h.cpuClock⟩, ⟨h.ram, h.ramLive, h.screen⟩, h.extClock,
      h.rom, h.carriedPc, h.carriedAddressM, h.inM⟩
  · rintro ⟨cpu, mem, ext, rom, pc, addressM, inM⟩
    exact ⟨cpu.a, cpu.d, cpu.pc, cpu.aLive, cpu.dLive, cpu.pcLive, cpu.cpuClock, ext, mem.ram, mem.ramLive, mem.screen,
      rom, pc, addressM, inM⟩

end Sys2Proof.Machine
end

section
/-! CERTIFICATE. The Computer built from cells and gates (45_computer_step.md §4, 10_state.md §10): O55, O56. -/

namespace Sys2Proof.Machine

/-- Settles O55: the CPU's cycle gives the ports and shows the new registers (`cycle_outputs`, `cycle_shows`); the call of
the data memory with the edge after it is the write request, and the next call is the refresh read. -/
theorem cellComputerRefinesTheStep : Obligations.CellComputerRefinesTheStep := by
  intro c s hrep
  obtain ⟨cpu, mem, ext, rom, pc, addressM, inM⟩ := (represents_iff c s).mp hrep
  have fetched : c.rom.read c.pc.toNat = fetchWord s := by rw [rom, pc]; rfl
  refine ⟨_, step_eq_runWord s, ?_⟩
  simp only [CellComputer.step, fetched, inM, cycle_outputs _ cpu, ports_eq]
  generalize fetchWord s = w
  obtain ⟨shows, fresh⟩ := DataMemory.shows_finishStep mem (wordNewA w s)
    (register (w.getLsbD 15 && w.getLsbD 4) (wordResult w s).out s.D) (pcAfter s (wordJump w s))
    (w.getLsbD 15 && w.getLsbD 3) (wordResult w s).out
  refine ⟨(represents_iff _ _).mpr ⟨cycle_shows w cpu, shows, ?ext, ?rom, ?pc, ?addressM, fresh⟩, trivial⟩
  case ext => rw [runWord, finishStep_extClock, Clock.advance, ext]
  case rom => rw [runWord, finishStep_rom, rom]
  case pc => rw [runWord, finishStep_pc]
  case addressM => rw [runWord, finishStep_addressM]

/-- Settles O56: cells at launch show their launch bits and none is stale. -/
theorem cellLaunchRepresentsTheLaunchState : Obligations.CellLaunchRepresentsTheLaunchState := by
  intro rom ramInit screenInit resetIn key keyIn s
  refine (represents_iff _ _).mpr ⟨?cpu, ?mem, rfl, rfl, rfl, rfl, rfl⟩
  case cpu =>
    have live : ∀ w, (Register.launch w).live { count := 0 } := fun _ _ => .inr rfl
    exact ⟨Register.read_launch _, Register.read_launch _, Register.read_launch _, live _, live _, live _, rfl⟩
  case mem =>
    let words : BitVec 14 → Word := fun a => s.ram.read a.toNat
    exact ⟨Ram16K.word_launch words, Ram16K.live_launch words, rfl⟩

end Sys2Proof.Machine
end

section
/-! SUPPORT. The effect of the load-address format, a store above the display, what the carried data word, the keyboard
word and `reset` reach, and the Clocks of a run (43_cpu_instructions.md, 20_memory.md §4, 70_reset_and_hazards.md §2). -/

namespace Sys2Proof.Machine

/-! ### The two formats -/

/-- The low 15 bits of a literal are the literal. -/
theorem low15_literal (value : BitVec 15) : low15 (literal value) = value := by
  rw [low15, literal]
  exact BitVec.setWidth_setWidth_of_le value (by decide)

/-- The fetch address after the next one counts modulo 32768 (R26). -/
theorem toNat_low15_add_one (w : Word) : (low15 (w + 1#16)).toNat = ((low15 w).toNat + 1) % 32768 := by
  simp only [low15, BitVec.toNat_setWidth, BitVec.toNat_add, BitVec.toNat_ofNat]
  omega

/-- A load-address instruction changes `A` and the program counter alone (R215). -/
theorem exec_loadAddr_effect (value : BitVec 15) (s : State) :
    ∃ t, exec (.loadAddr value) s = .next t ∧ t.A = literal value ∧ t.D = s.D ∧
      t.PC = (if resetNow s then 0x0000#16 else s.PC + 1#16) ∧ DataKept s t ∧ Carried s t := by
  refine ⟨_, exec_loadAddr value s, finishStep_A .., finishStep_D .., ?pc, finishStep_kept _ _ _ _ _, finishStep_carried ..⟩
  case pc => rw [finishStep_PC, pcAfter_eq]; rfl

/-! ### Stores above the display -/

/-- A write request above the display leaves the state (R53, R59). -/
theorem memRequest_of_ge_24576 (s : State) (writeM : Signal) {addr : Addr} (v : Word) (h : 24576 ≤ addr.toNat) :
    memRequest s writeM addr v = s := by
  cases writeM with
  | false => rfl
  | true => exact memWrite_of_ge_24576 s v h

/-! ### The carried data word and the keyboard word -/

/-- The step's tail overwrites the carried data word and reads it nowhere. -/
theorem finishStep_with_inM (s : State) (x a d p : Word) (writeM : Signal) (outM : Word) :
    finishStep { s with inM := x } a d p writeM outM = finishStep s a d p writeM outM := by
  cases writeM with
  | false => rfl
  | true =>
    simp only [finishStep, memRequest, if_true, memWrite, cpuEdge_addressM]
    cases region (low15 a) <;> rfl

/-- The word on the keyboard is no operand: executing an instruction is the step's tail with the same values, whatever that
word is. -/
theorem exec_with_keyboard (i : Instr) (s : State) :
    ∃ a d p writeM outM, ∀ x : Word,
      exec i { s with keyboard := x } = .next (finishStep { s with keyboard := x } a d p writeM outM) := by
  rcases Instr.eq_ofFields i with ⟨value, rfl⟩ | ⟨src, c, dest, jump, rfl⟩
  case inl => exact ⟨literal value, s.D, pcAfter s false, false, 0#16, fun x => exec_loadAddr value _⟩
  case inr =>
    let result := computed src c s
    exact ⟨register dest.a result.out s.A, register dest.d result.out s.D, pcAfter s (Jump.taken jump result), dest.m,
      result.out, fun x => exec_of_shape_comp (Instr.shape_ofFields src c dest jump) _⟩

/-- The word on the keyboard reaches no store. -/
theorem finishStep_with_keyboard_stores (s : State) (x a d p : Word) (writeM : Signal) (outM : Word) :
    (finishStep { s with keyboard := x } a d p writeM outM).ram = (finishStep s a d p writeM outM).ram ∧
      (finishStep { s with keyboard := x } a d p writeM outM).screen = (finishStep s a d p writeM outM).screen := by
  rw [(finishStep_stores ..).1, (finishStep_stores ..).1, (finishStep_stores ..).2, (finishStep_stores ..).2,
    memRequest_ram, memRequest_ram, memRequest_screen, memRequest_screen]
  exact ⟨rfl, rfl⟩

/-- The refresh read of a step answers the keyboard word at address 24576 (R61). -/
theorem finishStep_inM_of_eq_24576 (s : State) {a : Word} (d p : Word) (writeM : Signal) (outM : Word)
    (h : (low15 a).toNat = 24576) : (finishStep s a d p writeM outM).inM = s.keyboard := by
  rw [finishStep_inM_eq_memRead, memRead_of_eq_24576 _ h, memRequest_keyboard]

/-- At every other address it does not look at the keyboard word. -/
theorem finishStep_inM_with_keyboard (s : State) (x : Word) {a : Word} (d p : Word) (writeM : Signal) (outM : Word)
    (h : (low15 a).toNat ≠ 24576) :
    (finishStep { s with keyboard := x } a d p writeM outM).inM = (finishStep s a d p writeM outM).inM := by
  rw [finishStep_inM_eq_memRead, finishStep_inM_eq_memRead, memRead_eq, memRead_eq]
  simp only [Config.keyboardAddr, h, if_false, memRequest_ram, memRequest_screen, memRequest_t]

/-! ### Runs -/

/-- Each Clock and the step number advance once in a step (R256). -/
theorem step_clocks {s t : State} (h : step s = .next t) :
    t.cpuClock = s.cpuClock + 1 ∧ t.extClock = s.extClock + 1 ∧ t.t = s.t + 1 := by
  obtain ⟨a, d, p, writeM, outM, rfl⟩ := eq_finishStep_of_step h
  exact ⟨finishStep_cpuClock .., finishStep_extClock .., finishStep_t ..⟩

/-- A run advances them once for each of its steps. -/
theorem run_clocks {k : Nat} {s t : State} (h : core.run k s = .next t) :
    t.cpuClock = s.cpuClock + k ∧ t.extClock = s.extClock + k ∧ t.t = s.t + k := by
  induction k generalizing s with
  | zero =>
    obtain rfl := run_zero_eq_next_iff.mp h
    exact ⟨rfl, rfl, rfl⟩
  | succ k ih =>
    obtain ⟨u, hstep, hrun⟩ := run_succ_eq_next_iff.mp h
    obtain ⟨cpu, ext, time⟩ := step_clocks hstep
    obtain ⟨cpuRun, extRun, timeRun⟩ := ih hrun
    omega

/-- A step with `reset` high ends with the program counter and the fetch address 0, and the next `reset` value is next. -/
theorem step_of_reset {s : State} (high : resetNow s = true) :
    ∃ t, step s = .next t ∧ t.PC = 0x0000#16 ∧ t.pc = 0#15 ∧ t.resetIn = s.resetIn.tail := by
  obtain ⟨hpc, -, -, -, -, -, -, hreset, -⟩ := runWord_carried (fetchWord s) s
  have zero : (runWord (fetchWord s) s).PC = 0x0000#16 := by rw [runWord_PC, if_pos high]
  exact ⟨_, step_eq_runWord s, zero, by rw [hpc, zero]; rfl, hreset⟩

/-- With the next `k + 1` values of `reset` high, the coming one is high, and so are the `k` after it. -/
theorem reset_held_succ {values : List Signal} {k : Nat} (held : values.take (k + 1) = List.replicate (k + 1) true) :
    values.headD false = true ∧ values.tail.take k = List.replicate k true := by
  cases values with
  | nil => simp at held
  | cons value values => simpa [List.replicate_succ] using held

/-- A run with `reset` held high ends with the program counter and the fetch address 0: by induction on its length, the
last step sets them. -/
theorem run_of_held_reset (k : Nat) {s : State} (held : s.resetIn.take (k + 1) = List.replicate (k + 1) true) :
    ∃ t, core.run (k + 1) s = .next t ∧ t.PC = 0x0000#16 ∧ t.pc = 0#15 := by
  induction k generalizing s with
  | zero =>
    obtain ⟨u, hstep, hPC, hpc, -⟩ := step_of_reset (reset_held_succ held).1
    exact ⟨u, run_succ_eq_next_iff.mpr ⟨u, hstep, run_zero_eq_next_iff.mpr rfl⟩, hPC, hpc⟩
  | succ k ih =>
    obtain ⟨now, later⟩ := reset_held_succ held
    obtain ⟨u, hstep, -, -, hreset⟩ := step_of_reset now
    obtain ⟨t, hrun, zero⟩ := ih (hreset ▸ later)
    exact ⟨t, run_succ_eq_next_iff.mpr ⟨u, hstep, hrun⟩, zero⟩

end Sys2Proof.Machine
end

section
/-! CERTIFICATE. The statements about the step, the two formats and the inputs (43_cpu_instructions.md,
45_computer_step.md, 70_reset_and_hazards.md): O8, O11, O12, O13, O23, O24, O25, O26, O27, O28, O30, O31, O33, O35, O36,
O38, O41. -/

namespace Sys2Proof.Machine

/-- Settles O8: decoding one word is `decodeWord`, and the step executes what it gives. -/
theorem stepRunsTheDecodedInstruction : Obligations.StepRunsTheDecodedInstruction := by
  intro s i hdecode
  rw [decode, Except.ok.injEq, Prod.mk.injEq] at hdecode
  obtain ⟨rfl, -⟩ := hdecode
  exact ⟨rfl, fun ⟨_, _, _, hpc, _⟩ => hpc⟩

/-- Settles O11: the transition of the fetched word (`step_eq_runWord`), part by part. -/
theorem stepOnInstructionBits : Obligations.StepOnInstructionBits := by
  intro s w i y r jp
  have result : wordResult w s = r := wordResult_eq w s
  have jump : wordJump w s = (i && jp) := by rw [wordJump, result, jumpPredicate_eq]
  obtain ⟨hpc, haddr, hinM, hcpu, hext, hrom, -⟩ := runWord_carried w s
  refine ⟨_, step_eq_runWord s, ?A, ?D, ?PC, haddr, hpc, ?data, ?inM, hrom, hcpu, hext⟩
  case A => rw [← result]; exact runWord_A w s
  case D => rw [← result]; exact runWord_D w s
  case PC => rw [← jump]; exact runWord_PC w s
  case data => rw [← result]; exact haddr ▸ runWord_data w s
  case inM => exact haddr ▸ hinM

/-- Settles O12: the effect of the format (`exec_loadAddr_effect`), whose new data address is the literal. -/
theorem loadAddressEffect : Obligations.LoadAddressEffect := by
  intro value s
  obtain ⟨t, hexec, hA, hD, hPC, kept, carried⟩ := exec_loadAddr_effect value s
  have haddr : t.addressM = value := by
    obtain ⟨-, haddr, -⟩ := carried
    rw [haddr, hA, low15_literal]
  exact ⟨t, hexec, hA, hD, hPC, haddr, kept, carried⟩

/-- Settles O13: the effect with the jump on the sign of the result (`computes_of_shape_comp`), the sign written as the
flags. -/
theorem computeEffectOfEveryComputeInstruction : Obligations.ComputeEffectOfEveryComputeInstruction := by
  intro i src c dest jump s hshape y r j
  obtain ⟨t, hexec, effect⟩ := computes_of_shape_comp hshape s
  rw [operandY_eq, ← taken_aluOf, Jump.taken, jumpPredicate_eq] at effect
  exact ⟨t, hexec, effect⟩

/-- Settles O23: the data words of the effect, at the new address and at the old one. -/
theorem storeWithAGoesToTheNewAddress : Obligations.StoreWithAGoesToTheNewAddress := by
  intro i src c dest jump s hshape destA destM
  obtain ⟨t, hexec, hA, -, -, stored, -⟩ := computes_of_shape_comp hshape s
  rw [if_pos destA] at hA
  rw [if_pos destM, hA] at stored
  refine ⟨t, _, hexec, rfl, hA, fun inside => ?new, fun inside other => ?old⟩
  case new => rw [stored _ inside, if_pos rfl]
  case old => rw [stored _ inside, if_neg other]

/-- Settles O24: the program counter takes the `A` from before the edge. -/
theorem takenJumpGoesToTheOldA : Obligations.TakenJumpGoesToTheOldA := by
  intro i src c dest jump s hshape destA low out taken
  obtain ⟨t, hexec, hA, -, hPC, -, hpc, -⟩ := computes_of_shape_comp hshape s
  rw [if_pos destA] at hA
  rw [low, if_neg Bool.false_ne_true, if_pos taken] at hPC
  exact ⟨t, hexec, hPC, hPC ▸ hpc, hA⟩

/-- Settles O25: the write request goes above the display, where it changes nothing (`memRequest_of_ge_24576`). -/
theorem storeAboveTheDisplayChangesNoWord : Obligations.StoreAboveTheDisplayChangesNoWord := by
  intro i src c dest jump s hshape r above
  have hexec := exec_of_shape_comp hshape s
  obtain ⟨t, hexec', hA, hD, hPC, -⟩ := computes_of_shape_comp hshape s
  obtain rfl := Host.Outcome.next.inj (hexec'.symm.trans hexec)
  have request := memRequest_of_ge_24576 s dest.m r.out above
  obtain ⟨ram, screen⟩ := finishStep_stores ..
  exact ⟨_, hexec, ram.trans (congrArg State.ram request), screen.trans (congrArg State.screen request), hA, hD, hPC⟩

/-- Settles O26: no value these instructions compute reads `inM`, and the step's tail overwrites it
(`finishStep_with_inM`). -/
theorem carriedWordMattersOnlyToM : Obligations.CarriedWordMattersOnlyToM := by
  intro i s x noM
  cases hshape : i.shape with
  | load value =>
    obtain rfl := Instr.eq_of_shape_load hshape
    exact congrArg Host.Outcome.next (finishStep_with_inM s x ..)
  | comp src c dest jump =>
    cases src with
    | inM => exact absurd hshape (noM c dest jump)
    | regA =>
      rw [exec_of_shape_comp hshape, exec_of_shape_comp hshape]
      exact congrArg Host.Outcome.next (finishStep_with_inM s x ..)

/-- Settles O27: both outcomes are the step's tail with the same values (`exec_with_keyboard`); the keyboard word reaches
the refresh read alone. -/
theorem keyboardReachesOnlyTheNextOperand : Obligations.KeyboardReachesOnlyTheNextOperand := by
  intro i s x
  obtain ⟨a, d, p, writeM, outM, hexec⟩ := exec_with_keyboard i s
  obtain ⟨ram, screen⟩ := finishStep_with_keyboard_stores s x a d p writeM outM
  refine ⟨_, _, hexec s.keyboard, hexec x, ?_⟩
  simp only [finishStep_A, finishStep_D, finishStep_PC, finishStep_pc, finishStep_addressM, finishStep_rom,
    finishStep_cpuClock, finishStep_extClock, true_and]
  exact ⟨ram, screen, finishStep_inM_with_keyboard s x d p writeM outM,
    fun at_ => ⟨finishStep_inM_of_eq_24576 s d p writeM outM at_, finishStep_inM_of_eq_24576 _ d p writeM outM at_⟩⟩

/-- Settles O28: the ports are the values of the transition (`ports_eq`). -/
theorem portsAgreeWithTheStep : Obligations.PortsAgreeWithTheStep := by
  intro s t hstep
  obtain rfl := eq_runWord_of_step hstep
  exact ⟨finishStep_addressM .., finishStep_pc .., finishStep_data ..⟩

/-- Settles O30, by induction on the number of steps (`run_of_held_reset`). -/
theorem heldResetKeepsPCAtZero : Obligations.HeldResetKeepsPCAtZero := by
  intro k s positive held
  cases k with
  | zero => exact absurd positive (Nat.lt_irrefl 0)
  | succ k => exact run_of_held_reset k held

/-- Settles O31: every field by evaluation, the stores of words by being empty. -/
theorem launchStateIsTheSpecsTable : Obligations.LaunchStateIsTheSpecsTable := by
  refine ⟨rfl, rfl, rfl, rfl, rfl, rfl, rfl, rfl, fun addr inside => ?data, fun addr => rfl, rfl, rfl, rfl, rfl⟩
  case data =>
    rcases region_spec addr with ⟨a, e, -⟩ | ⟨a, e, -⟩ | ⟨-, eq⟩ | ⟨-, above⟩
    · rw [memRead, e]; rfl
    · rw [memRead, e]; rfl
    all_goals omega

/-- Settles O33: empty stores, registers and Clocks at 0, and no step made yet. -/
theorem invariantHoldsAtReset : Obligations.InvariantHoldsAtReset := by
  obtain ⟨ram, screen, rom⟩ := reset_stores_wf
  exact ⟨⟨ram, screen, rom, rfl, rfl, rfl, rfl⟩, fun started => absurd started (Nat.lt_irrefl 0)⟩

/-- Settles O35: the refresh read comes after the write of the step (R254). -/
theorem carriedWordIsCurrentAfterEveryStep : Obligations.CarriedWordIsCurrentAfterEveryStep := by
  intro s t hstep
  obtain rfl := eq_runWord_of_step hstep
  obtain ⟨-, haddr, hinM, -⟩ := runWord_carried (fetchWord s) s
  have current : (runWord (fetchWord s) s).addressM.toNat < 24576 →
      (runWord (fetchWord s) s).inM = memRead (runWord (fetchWord s) s) (low15 (runWord (fetchWord s) s).A) := by
    intro inside
    rw [hinM, refreshed, if_pos (haddr ▸ inside)]
  exact ⟨fun _ inside => haddr ▸ current inside, current⟩

/-- Settles O36, by induction on the number of steps (`run_clocks`); from reset every run completes. -/
theorem eachClockAdvancesOncePerStep : Obligations.EachClockAdvancesOncePerStep := by
  refine ⟨fun _ _ _ => run_clocks, fun k => ?_⟩
  obtain ⟨t, hrun⟩ := safeRun_all k State.reset
  obtain ⟨cpu, ext, -⟩ := run_clocks hrun
  exact ⟨t, hrun, cpu.trans (Nat.zero_add k), ext.trans (Nat.zero_add k)⟩

/-- Settles O38: only a write request changes a data word, and the fetched word makes one only with bits 15 and 3 high. -/
theorem onlyAMemoryDestinationChangesAWord : Obligations.OnlyAMemoryDestinationChangesAWord := by
  intro s t addr hstep inside changed
  obtain rfl := eq_runWord_of_step hstep
  generalize fetchWord s = w at changed ⊢
  have data := runWord_data w s
  split at data
  · next request =>
    obtain ⟨format, destM⟩ := Bool.and_eq_true_iff.mp request
    have word := data addr inside
    split at word
    · next at_ => exact ⟨_, _, _, _, shape_decodeWord_comp format, by rw [destOfCode_field]; exact destM, at_, word⟩
    · exact absurd word changed
  · exact absurd (data addr inside) changed

/-- Settles O41: without a jump the program counter goes on, and its low 15 bits wrap at 32768. -/
theorem fetchAddressWraps : Obligations.FetchAddressWraps := by
  intro i s noJump hpc low
  have next : ∃ t, exec i s = .next t ∧ t.PC = s.PC + 1#16 ∧ t.pc = low15 t.PC := by
    cases hshape : i.shape with
    | load value =>
      obtain rfl := Instr.eq_of_shape_load hshape
      obtain ⟨t, hexec, -, -, hPC, -, hcarried, -⟩ := exec_loadAddr_effect value s
      rw [low, if_neg Bool.false_ne_true] at hPC
      exact ⟨t, hexec, hPC, hcarried⟩
    | comp src c dest jump =>
      obtain rfl := noJump src c dest jump hshape
      obtain ⟨t, hexec, -, -, hPC, -, hcarried, -⟩ := computes_of_shape_comp hshape s
      rw [low, if_neg Bool.false_ne_true] at hPC
      exact ⟨t, hexec, hPC, hcarried⟩
  obtain ⟨t, hexec, hPC, hcarried⟩ := next
  refine ⟨t, hexec, hPC, ?_⟩
  rw [hcarried, hPC, hpc]
  exact toNat_low15_add_one s.PC

end Sys2Proof.Machine
end

section
/-! SUPPORT. The closed forms of the ALU's results (44_compute_functions.md), one row for each value of `c`. -/

namespace Sys2Proof.Machine

/-- The closed form of the ALU's result for each value of `c` (44_compute_functions.md R300 to R363), the bits of `c` in the
order `zx`, `nx`, `zy`, `ny`, `f`, `no`. -/
def closedForm (c : BitVec 6) (x y : Word) : Word :=
  match c.getLsbD 5, c.getLsbD 4, c.getLsbD 3, c.getLsbD 2, c.getLsbD 1, c.getLsbD 0 with
  | false, false, false, false, false, false => x &&& y
  | false, false, false, false, false, true => ~~~(x &&& y)
  | false, false, false, false, true, false => x + y
  | false, false, false, false, true, true => -x - y - 1#16
  | false, false, false, true, false, false => x &&& ~~~y
  | false, false, false, true, false, true => ~~~x ||| y
  | false, false, false, true, true, false => x - y - 1#16
  | false, false, false, true, true, true => y - x
  | false, false, true, false, false, false => 0#16
  | false, false, true, false, false, true => -1#16
  | false, false, true, false, true, false => x
  | false, false, true, false, true, true => ~~~x
  | false, false, true, true, false, false => x
  | false, false, true, true, false, true => ~~~x
  | false, false, true, true, true, false => x - 1#16
  | false, false, true, true, true, true => -x
  | false, true, false, false, false, false => ~~~x &&& y
  | false, true, false, false, false, true => x ||| ~~~y
  | false, true, false, false, true, false => y - x - 1#16
  | false, true, false, false, true, true => x - y
  | false, true, false, true, false, false => ~~~(x ||| y)
  | false, true, false, true, false, true => x ||| y
  | false, true, false, true, true, false => -x - y - 2#16
  | false, true, false, true, true, true => x + y + 1#16
  | false, true, true, false, false, false => 0#16
  | false, true, true, false, false, true => -1#16
  | false, true, true, false, true, false => ~~~x
  | false, true, true, false, true, true => x
  | false, true, true, true, false, false => ~~~x
  | false, true, true, true, false, true => x
  | false, true, true, true, true, false => -x - 2#16
  | false, true, true, true, true, true => x + 1#16
  | true, false, false, false, false, false => 0#16
  | true, false, false, false, false, true => -1#16
  | true, false, false, false, true, false => y
  | true, false, false, false, true, true => ~~~y
  | true, false, false, true, false, false => 0#16
  | true, false, false, true, false, true => -1#16
  | true, false, false, true, true, false => ~~~y
  | true, false, false, true, true, true => y
  | true, false, true, false, false, false => 0#16
  | true, false, true, false, false, true => -1#16
  | true, false, true, false, true, false => 0#16
  | true, false, true, false, true, true => -1#16
  | true, false, true, true, false, false => 0#16
  | true, false, true, true, false, true => -1#16
  | true, false, true, true, true, false => -1#16
  | true, false, true, true, true, true => 0#16
  | true, true, false, false, false, false => y
  | true, true, false, false, false, true => ~~~y
  | true, true, false, false, true, false => y - 1#16
  | true, true, false, false, true, true => -y
  | true, true, false, true, false, false => ~~~y
  | true, true, false, true, false, true => y
  | true, true, false, true, true, false => -y - 2#16
  | true, true, false, true, true, true => y + 1#16
  | true, true, true, false, false, false => 0#16
  | true, true, true, false, false, true => -1#16
  | true, true, true, false, true, false => -1#16
  | true, true, true, false, true, true => 0#16
  | true, true, true, true, false, false => -1#16
  | true, true, true, true, false, true => 0#16
  | true, true, true, true, true, false => -2#16
  | true, true, true, true, true, true => 1#16

/-- The complement of a word is its negation less one. -/
theorem not_eq_neg_sub_one (w : Word) : ~~~w = -w - 1#16 := by
  rw [BitVec.neg_eq_not_add, BitVec.add_sub_cancel]

/-- The ALU's result is its closed form: with `f` low by De Morgan's laws, with `f` high by the laws of addition, where a
complement is a negation less one. -/
theorem aluOf_out (c : BitVec 6) (x y : Word) : (aluOf c x y).out = closedForm c x y := by
  have zero : 0#16 = (0 : Word) := rfl
  have two : 2#16 = 1#16 + 1#16 := rfl
  have ones : -1#16 = BitVec.allOnes 16 := rfl
  simp only [aluOf, alu, aluFunction, aluOperand, closedForm]
  generalize c.getLsbD 5 = zx, c.getLsbD 4 = nx, c.getLsbD 3 = zy, c.getLsbD 2 = ny, c.getLsbD 1 = f, c.getLsbD 0 = no
  cases f with
  | false =>
    cases zx <;> cases nx <;> cases zy <;> cases ny <;> cases no <;>
      simp only [choose, if_true, Bool.false_eq_true, if_false, ones, BitVec.not_and, BitVec.not_or, BitVec.not_not,
        BitVec.not_zero, BitVec.not_allOnes, BitVec.and_allOnes, BitVec.allOnes_and, BitVec.and_zero, BitVec.zero_and]
  | true =>
    cases zx <;> cases nx <;> cases zy <;> cases ny <;> cases no <;>
      simp only [choose, if_true, Bool.false_eq_true, if_false, not_eq_neg_sub_one, two, zero]
    all_goals ring

/-- A compute instruction completes with its ALU's result, in whatever form that is given. -/
theorem computes_of_result {i : Instr} {src : SrcY} {c : BitVec 6} {dest : Dest} {jump : Jump}
    (h : i.shape = .comp src c dest jump) (s : State) {out : Word} (result : (aluOf c s.D (operandY src s)).out = out) :
    Computes i s out dest jump :=
  result ▸ computes_of_shape_comp h s

end Sys2Proof.Machine
end

section
/-! CERTIFICATE. The statements about the results of the compute instructions (44_compute_functions.md): O14 to O21. -/

namespace Sys2Proof.Machine

/-- Settles O14: the rows c = 000000 to 000111 of the closed forms, each with both sources of the second operand. -/
theorem resultsBothOperandsPlain : Obligations.ResultsBothOperandsPlain := by
  intro s dest jump
  and_intros
  all_goals exact computes_of_result rfl s (aluOf_out ..)

/-- Settles O15: the rows c = 001000 to 001111 of the closed forms, each with both sources of the second operand. -/
theorem resultsXOnlyPlain : Obligations.ResultsXOnlyPlain := by
  intro s dest jump
  and_intros
  all_goals exact computes_of_result rfl s (aluOf_out ..)

/-- Settles O16: the rows c = 010000 to 010111 of the closed forms, each with both sources of the second operand. -/
theorem resultsBothOperandsXComplemented : Obligations.ResultsBothOperandsXComplemented := by
  intro s dest jump
  and_intros
  all_goals exact computes_of_result rfl s (aluOf_out ..)

/-- Settles O17: the rows c = 011000 to 011111 of the closed forms, each with both sources of the second operand. -/
theorem resultsXOnlyComplemented : Obligations.ResultsXOnlyComplemented := by
  intro s dest jump
  and_intros
  all_goals exact computes_of_result rfl s (aluOf_out ..)

/-- Settles O18: the rows c = 100000 to 100111 of the closed forms, each with both sources of the second operand. -/
theorem resultsYOnlyXZeroed : Obligations.ResultsYOnlyXZeroed := by
  intro s dest jump
  and_intros
  all_goals exact computes_of_result rfl s (aluOf_out ..)

/-- Settles O19: the rows c = 101000 to 101111 of the closed forms, each with both sources of the second operand. -/
theorem resultsConstantsXZeroed : Obligations.ResultsConstantsXZeroed := by
  intro s dest jump
  and_intros
  all_goals exact computes_of_result rfl s (aluOf_out ..)

/-- Settles O20: the rows c = 110000 to 110111 of the closed forms, each with both sources of the second operand. -/
theorem resultsYOnlyXOnes : Obligations.ResultsYOnlyXOnes := by
  intro s dest jump
  and_intros
  all_goals exact computes_of_result rfl s (aluOf_out ..)

/-- Settles O21: the rows c = 111000 to 111111 of the closed forms, each with both sources of the second operand. -/
theorem resultsConstantsXOnes : Obligations.ResultsConstantsXOnes := by
  intro s dest jump
  and_intros
  all_goals exact computes_of_result rfl s (aluOf_out ..)

end Sys2Proof.Machine
end

section
/-! SUPPORT. Loading the instruction store (20_memory.md R65, R66) and the launch (70_reset_and_hazards.md R430 to R436): the
words of the two forms of a source, and the store they make. -/

namespace Sys2Proof.Machine

/-! ### The store of a list of words (R64, R436) -/

/-- At most 32768 words make a store in canonical form, word `k` at address `k` and every other word unlisted. -/
theorem romOfWords_of_le {words : List Word} (h : words.length ≤ 32768) :
    ∃ m, romOfWords words = .ok m ∧ m.wf Config.romWords = true ∧ ∀ k, m.read k = words.getD k 0x0000#16 := by
  refine ⟨_, if_pos (decide_eq_true h), Memory.wf_writeAll (Memory.wf_nil _) ?fits, fun k => ?word⟩
  case fits => rw [Nat.zero_add]; exact h
  case word =>
    rw [Memory.read_writeAll, Nat.sub_zero, Nat.zero_add]
    by_cases inside : k < words.length
    · rw [if_pos ⟨Nat.zero_le k, inside⟩]
    · rw [if_neg fun ⟨_, hk⟩ => inside hk, List.getD_eq_default _ _ (Nat.le_of_not_lt inside)]
      rfl

/-- More words are refused (decision D21). -/
theorem romOfWords_of_gt {words : List Word} (h : 32768 < words.length) : romOfWords words = .error .tooManyWords :=
  if_neg (by rw [romImageWf, decide_eq_true_eq]; exact Nat.not_le_of_lt h)

/-- A store that a list of words makes is in canonical form. -/
theorem wf_of_romOfWords {words : List Word} {m : Memory} (h : romOfWords words = .ok m) :
    m.wf Config.romWords = true := by
  by_cases fits : words.length ≤ 32768
  · obtain ⟨m', hm', wf, -⟩ := romOfWords_of_le fits
    exact Except.ok.inj (hm'.symm.trans h) ▸ wf
  · rw [romOfWords_of_gt (Nat.lt_of_not_le fits)] at h
    exact nomatch h

/-- A store that the words of a source make, if the source has words, is in canonical form. -/
theorem wf_of_bind_romOfWords {words : Except LoadError (List Word)} {m : Memory} (h : words.bind romOfWords = .ok m) :
    m.wf Config.romWords = true := by
  cases words with
  | error e => exact nomatch h
  | ok words => exact wf_of_romOfWords h

/-! ### The textual form (R65) -/

/-- Well-formed lines before others add the words they give. -/
theorem wordsOfLines_chars_append {lines : List SourceLine} (wf : ∀ line ∈ lines, line.wf = true)
    (rest : List (List Char)) :
    wordsOfLines (lines.map SourceLine.chars ++ rest) =
      (wordsOfLines rest).map (lines.filterMap SourceLine.word? ++ ·) := by
  induction lines with
  | nil => cases h : wordsOfLines rest <;> simp [h, Except.map]
  | cons line lines ih =>
    obtain ⟨hline, hlines⟩ := List.forall_mem_cons.mp wf
    rw [List.map_cons, List.cons_append, wordsOfLines_chars_cons line hline, ih hlines]
    cases wordsOfLines rest with
    | error e => rfl
    | ok words => cases h : line.word? <;> simp [Except.map, h]

/-- Well-formed lines, each ended by a line feed, are split off. -/
theorem splitLines_textOfLines_append {lines : List SourceLine} (wf : ∀ line ∈ lines, line.wf = true)
    (rest : List Char) :
    splitLines [] (textOfLines lines ++ rest) = lines.map SourceLine.chars ++ splitLines [] rest := by
  induction lines with
  | nil => rfl
  | cons line lines ih =>
    obtain ⟨hline, hlines⟩ := List.forall_mem_cons.mp wf
    have text : textOfLines (line :: lines) ++ rest = line.chars ++ '\n' :: (textOfLines lines ++ rest) := by
      simp [textOfLines]
    rw [text, splitLines_append_lineFeed [] _ _ (line.lineFeed_not_mem_chars hline), ih hlines]
    rfl

/-- The words of a source that begins with well-formed lines. -/
theorem wordsOfLines_textOfLines_append {lines : List SourceLine} (wf : ∀ line ∈ lines, line.wf = true)
    (rest : List Char) :
    wordsOfLines (splitLines [] (textOfLines lines ++ rest)) =
      (wordsOfLines (splitLines [] rest)).map (lines.filterMap SourceLine.word? ++ ·) := by
  rw [splitLines_textOfLines_append wf, wordsOfLines_chars_append wf]

/-- A source of well-formed lines loads as the words they give. -/
theorem loadText_textOfLines {lines : List SourceLine} (wf : ∀ line ∈ lines, line.wf = true) :
    loadText (textOfLines lines) = romOfWords (lines.filterMap SourceLine.word?) := by
  have words := wordsOfLines_textOfLines_append wf []
  have empty : wordsOfLines (splitLines [] []) = .ok [] := rfl
  rw [List.append_nil, empty, Except.map, List.append_nil] at words
  rw [loadText, words]
  rfl

/-- A last line feed adds a blank line. -/
theorem splitLines_append_last (cur source : List Char) :
    splitLines cur (source ++ ['\n']) = splitLines cur source ++ [[]] := by
  induction source generalizing cur with
  | nil => rfl
  | cons ch source ih =>
    rw [List.cons_append, splitLines, splitLines]
    split
    · rw [ih, List.cons_append]
    · exact ih _

/-- A blank last line gives no word. -/
theorem wordsOfLines_append_blank (lines : List (List Char)) : wordsOfLines (lines ++ [[]]) = wordsOfLines lines := by
  induction lines with
  | nil => rfl
  | cons line lines ih => rw [List.cons_append, wordsOfLines, wordsOfLines, ih]

/-- The last line of a source loads with or without its line feed. -/
theorem loadText_append_lineFeed (source : List Char) : loadText (source ++ ['\n']) = loadText source := by
  rw [loadText, splitLines_append_last, wordsOfLines_append_blank, loadText]

/-- A line is the first one split off, whether the source ends with it or goes on after a line feed. -/
theorem splitLines_line_append {line rest : List Char} (noLineFeed : '\n' ∉ line)
    (ended : rest = [] ∨ ∃ more, rest = '\n' :: more) : ∃ lines, splitLines [] (line ++ rest) = line :: lines := by
  rcases ended with rfl | ⟨more, rfl⟩
  · exact ⟨[], by rw [List.append_nil, splitLines_of_no_lineFeed [] line noLineFeed]; rfl⟩
  · exact ⟨_, splitLines_append_lineFeed [] line more noLineFeed⟩

/-- A line that is refused, after well-formed lines, refuses the source (decision D21). -/
theorem loadText_of_refused_line {before : List SourceLine} {line rest : List Char} {e : LoadError}
    (wf : ∀ l ∈ before, l.wf = true) (noLineFeed : '\n' ∉ line) (ended : rest = [] ∨ ∃ more, rest = '\n' :: more)
    (refused : ∀ lines, wordsOfLines (line :: lines) = .error e) :
    loadText (textOfLines before ++ line ++ rest) = .error e := by
  obtain ⟨lines, split⟩ := splitLines_line_append noLineFeed ended
  rw [loadText, List.append_assoc, wordsOfLines_textOfLines_append wf, split, refused]
  rfl

theorem wordsOfLines_of_long {line : List Char} (h : 16 < line.length) (lines : List (List Char)) :
    wordsOfLines (line :: lines) = .error .longLine := by
  rw [wordsOfLines, if_neg (by omega), if_pos h]

theorem wordsOfLines_of_bad_character {line : List Char} (h : line.length = 16) (bad : ∃ ch ∈ line, ch ≠ '0' ∧ ch ≠ '1')
    (lines : List (List Char)) : wordsOfLines (line :: lines) = .error .badCharacter := by
  obtain ⟨ch, mem, zero, one⟩ := bad
  have notWord : wordLineWf line = false := by
    rw [wordLineWf, Bool.and_eq_false_iff]
    exact .inr (List.all_eq_false.mpr ⟨ch, mem, by simp [zero, one]⟩)
  rw [wordsOfLines, if_neg (by omega), if_neg (by omega), notWord]
  rfl

/-! ### The binary form (R66) -/

/-- A word is its two bytes, the high one first. -/
theorem bytes_append (w : Word) : w.extractLsb' 8 8 ++ w.extractLsb' 0 8 = w := by
  apply BitVec.eq_of_getLsbD_eq
  intro k hk
  refine BitVec.getLsbD_append.trans ?_
  split
  · next low => rw [getLsbD_field _ low, Nat.zero_add]
  · next high => rw [getLsbD_field _ (by omega), Nat.add_sub_cancel' (Nat.le_of_not_lt high)]

/-- The bytes of a list of words give the words again, in either order. -/
theorem wordsOfBytes_bytesOfWords (order : ByteOrder) (words : List Word) :
    wordsOfBytes order (bytesOfWords order words) = .ok words := by
  induction words with
  | nil => rfl
  | cons w words ih =>
    cases order with
    | big =>
      have bytes : bytesOfWords .big (w :: words) =
          w.extractLsb' 8 8 :: w.extractLsb' 0 8 :: bytesOfWords .big words := rfl
      rw [bytes, wordsOfBytes, ih, wordOfBytes, bytes_append]
      rfl
    | little =>
      have bytes : bytesOfWords .little (w :: words) =
          w.extractLsb' 0 8 :: w.extractLsb' 8 8 :: bytesOfWords .little words := rfl
      rw [bytes, wordsOfBytes, ih, wordOfBytes, bytes_append]
      rfl

/-- An odd number of bytes makes no words. -/
theorem wordsOfBytes_of_odd (order : ByteOrder) {bytes : List (BitVec 8)} (odd : bytes.length % 2 = 1) :
    wordsOfBytes order bytes = .error .oddBytes := by
  fun_induction wordsOfBytes order bytes with
  | case1 => exact nomatch odd
  | case2 => rfl
  | case3 b1 b2 rest ih =>
    rw [List.length_cons, List.length_cons] at odd
    rw [ih (by omega)]
    rfl

/-! ### Launch -/

/-- A store that a load answers is in canonical form. -/
theorem wf_of_loadRom {source : RomSource} {rom : Memory} (h : loadRom source = .ok rom) :
    rom.wf Config.romWords = true := by
  cases source with
  | text source => exact wf_of_bind_romOfWords h
  | binary bytes => exact wf_of_bind_romOfWords h
  | unreadable => exact nomatch h

/-- The first `size` words of a list make a store of that size. -/
theorem wf_writeAll_take (size : Nat) (words : List Word) : (Memory.writeAll [] 0 (words.take size)).wf size = true :=
  Memory.wf_writeAll (Memory.wf_nil size) (by rw [Nat.zero_add]; exact List.length_take_le size words)

/-- The launch state meets the invariant when the instruction store is in canonical form. -/
theorem inv_launch {rom : Memory} (wf : rom.wf Config.romWords = true) (ramInit screenInit : List Word)
    (resetIn : List Signal) (key : Word) (keyIn : List Word) :
    (State.launch rom ramInit screenInit resetIn key keyIn).Inv :=
  ⟨wf_writeAll_take _ ramInit, wf_writeAll_take _ screenInit, wf, rfl, rfl, rfl, rfl⟩

end Sys2Proof.Machine
end

section
/-! CERTIFICATE. The statements about loading and launch (20_memory.md §6, 70_reset_and_hazards.md §1, §3): O57, O58, O59,
O60. -/

namespace Sys2Proof.Machine

/-- Settles O57: the launch maps the load's answer, and what a load answers is in canonical form (`wf_of_loadRom`). -/
theorem launchIsAllOrNothing : Obligations.LaunchIsAllOrNothing := by
  intro source ramInit screenInit resetIn key keyIn
  refine ⟨fun rom loaded => ⟨_, by rw [launchFrom, loaded, Except.map], rfl, rfl, ?inv⟩,
    fun e failed => by rw [launchFrom, failed, Except.map], rfl⟩
  case inv => exact inv_launch (wf_of_loadRom loaded) ..

/-- Settles O58: a source of well-formed lines, with or without its last line feed, loads as the words of its lines
(`loadText_textOfLines`, `loadText_append_lineFeed`); the plain source of a list of words is one. -/
theorem textualSourceLoadsItsWords : Obligations.TextualSourceLoadsItsWords := by
  constructor
  case left =>
    intro words
    have lines : (words.map SourceLine.word).filterMap SourceLine.word? = words := by
      rw [List.filterMap_map]; exact List.filterMap_some
    have load : loadText (textOfWords words) = romOfWords words := by
      rw [textOfWords, loadText_textOfLines (by simp [SourceLine.wf]), lines]
    rw [load]
    exact ⟨romOfWords_of_le, romOfWords_of_gt⟩
  case right =>
    intro lines source wf text words
    have load : loadText source = romOfWords words := by
      rcases text with rfl | text
      · exact loadText_textOfLines wf
      · rw [← loadText_append_lineFeed, text, loadText_textOfLines wf]
    rw [load]
    exact ⟨romOfWords_of_le, romOfWords_of_gt⟩

/-- Settles O59: the lines before are well formed, so the line at fault names the error (`loadText_of_refused_line`). -/
theorem malformedTextIsRefusedWhole : Obligations.MalformedTextIsRefusedWhole :=
  fun _ _ _ wf noLineFeed ended =>
    ⟨fun long => loadText_of_refused_line wf noLineFeed ended (wordsOfLines_of_long long),
      fun length bad => loadText_of_refused_line wf noLineFeed ended (wordsOfLines_of_bad_character length bad)⟩

/-- Settles O60: in either byte order the bytes give the words again, and an odd number of bytes gives none. -/
theorem binarySourceLoadsItsWords : Obligations.BinarySourceLoadsItsWords := by
  constructor
  case left =>
    intro words fits
    obtain ⟨m, loaded, -, word⟩ := romOfWords_of_le fits
    refine ⟨m, ?_, word⟩
    rw [loadBinary, wordsOfBytes_bytesOfWords]
    exact loaded
  case right =>
    intro bytes odd
    rw [loadBinary, wordsOfBytes_of_odd _ odd]
    rfl

end Sys2Proof.Machine
end
